-- ==== Sys2Proof/Word.lean ====
section
/-!
DEFINITION. The bytes, words and byte strings of the engine (00_scope.md R8, R10) and the four bytes of a trigger.
-/

namespace Sys2Proof

/-- An unsigned 8-bit value (R10). -/
abbrev Byte := BitVec 8

/-- A 32-bit value: a counter, the volatile bits or the lock word (R8). -/
abbrev Word := BitVec 32

/-- A byte string of fixed length; byte `k` has index `k` (R10). -/
abbrev Bytes (n : Nat) := Vector Byte n

/-- The command trigger: the four bytes at window offsets 0x50 to 0x53, in that order (R17, R61). -/
structure Trigger where
  arg0 : Byte
  arg1 : Byte
  arg2 : Byte
  opcode : Byte
  deriving DecidableEq, Repr, Inhabited

end Sys2Proof
end

