-- ==== Sys2Proof/Syntax.lean ====
section
/-!
DEFINITION. The commands: one constructor per row of spec/opcode_table.json (30_encoding.md R63, R65).
-/

namespace Sys2Proof

/-- A command with its argument bytes. The bytes R63 marks unused are kept, under the names the trigger gives them,
so that a trigger and its command determine each other; no meaning reads them (R68, log 11, log 17).
The payload is not part of the trigger (R62): the device latches it beside the command (R83). -/
inductive Instr where
  /-- NOP, opcode 0x00. -/
  | nop (arg0 arg1 arg2 : Byte)
  /-- EXTEND, opcode 0xE0: register index, data length. -/
  | extend (index length arg2 : Byte)
  /-- QUOTE, opcode 0xA0: field-selection mask, nonce length. -/
  | quote (mask length arg2 : Byte)
  /-- INCREMENT, opcode 0xC0: counter index, addend. -/
  | increment (index addend arg2 : Byte)
  /-- HKDF, opcode 0xB0: seed length. -/
  | hkdf (length arg1 arg2 : Byte)
  deriving DecidableEq, Repr

end Sys2Proof
end

