-- ==== Sys2Proof/WellFormed.lean ====
section
/-!
DEFINITION. Which commands are valid: the operand ranges of 30_encoding.md R66.
-/

namespace Sys2Proof

/-- `valid(op, a0, a1, a2)` of R66 for the five defined opcodes. Unused argument bytes do not affect it. -/
def Instr.wellFormed : Instr → Bool
  | .nop _ _ _ => true
  | .extend index length _ => decide (index.toNat ≤ 2) && decide (length.toNat ≤ 80)
  | .quote _ length _ => decide (length.toNat ≤ 80)
  | .increment index addend _ => decide (index.toNat ≤ 1) && decide (1 ≤ addend.toNat)
  | .hkdf length _ _ => decide (length.toNat ≤ 80)

end Sys2Proof
end

