-- ==== Sys2Proof/Decode.lean ====
section
/-!
DEFINITION. Decoding the four trigger bytes into a command, and encoding a command (30_encoding.md R61 to R69).
The opcode byte alone selects the command (R65); the operand ranges are `Instr.wellFormed` (R66), which the device
checks when it accepts the trigger (R83).
-/

namespace Sys2Proof

/-- Why bytes are no command. -/
inductive DecodeError where
  /-- The opcode byte is one of the 251 undefined values (R67). -/
  | undefinedOpcode (opcode : Byte)
  /-- Fewer than the four bytes every trigger has (R69). -/
  | truncated
  deriving DecidableEq, Repr

/-- The command a trigger names (R63, R65). -/
def decode (t : Trigger) : Except DecodeError Instr :=
  if t.opcode = 0x00 then .ok (.nop t.arg0 t.arg1 t.arg2)
  else if t.opcode = 0xE0 then .ok (.extend t.arg0 t.arg1 t.arg2)
  else if t.opcode = 0xA0 then .ok (.quote t.arg0 t.arg1 t.arg2)
  else if t.opcode = 0xC0 then .ok (.increment t.arg0 t.arg1 t.arg2)
  else if t.opcode = 0xB0 then .ok (.hkdf t.arg0 t.arg1 t.arg2)
  else .error (.undefinedOpcode t.opcode)

/-- Decoding from a list of bytes, first byte at 0x50: a trigger is always four bytes (R69); the rest is returned. -/
def decodeBytes : List Byte → Except DecodeError (Instr × List Byte)
  | a0 :: a1 :: a2 :: op :: rest => (decode ⟨a0, a1, a2, op⟩).map fun i => (i, rest)
  | _ => .error .truncated

/-- The trigger of a command (R63, R65). -/
def encode : Instr → Trigger
  | .nop arg0 arg1 arg2 => ⟨arg0, arg1, arg2, 0x00⟩
  | .extend index length arg2 => ⟨index, length, arg2, 0xE0⟩
  | .quote mask length arg2 => ⟨mask, length, arg2, 0xA0⟩
  | .increment index addend arg2 => ⟨index, addend, arg2, 0xC0⟩
  | .hkdf length arg1 arg2 => ⟨length, arg1, arg2, 0xB0⟩

/-- The bytes of a trigger in window order (R61). -/
def Trigger.bytes (t : Trigger) : List Byte := [t.arg0, t.arg1, t.arg2, t.opcode]

/-- The word view `w = from_le32(TRIG)` of R61. -/
def Trigger.word (t : Trigger) : Word :=
  BitVec.ofNat 32 (t.arg0.toNat + 256 * t.arg1.toNat + 65536 * t.arg2.toNat + 16777216 * t.opcode.toNat)

/-- The trigger whose word view is `w` (R61). -/
def Trigger.ofWord (w : Word) : Trigger :=
  ⟨w.extractLsb' 0 8, w.extractLsb' 8 8, w.extractLsb' 16 8, w.extractLsb' 24 8⟩

/-- The trigger that `nbits` bits `w` of the opcode table stand for; the bits above are zero (R61). -/
def tableTrigger (nbits w : Nat) : Trigger := Trigger.ofWord (BitVec.ofNat 32 (w % 2 ^ nbits))

/-- What this decoder reads from an instruction word numbered as spec/opcode_table.json numbers it. -/
def decodeTableWord (nbits w : Nat) : Option Instr :=
  match decodeBytes (tableTrigger nbits w).bytes with
  | .ok (i, _) => some i
  | .error _ => none

end Sys2Proof
end

