-- ==== Sys2Proof/Config.lean ====
section
/-!
DEFINITION. What a device instance fixes (00_scope.md R9), the external hash core (44_key_derivation_attestation.md
R119, R121), and the free values `draw()` of the spec (R10). Everything opaque here has no body: nothing can be proved
about its values.
-/

namespace Sys2Proof

/-- The two functions of the external hash core (R119), total and functions of their inputs alone (R121). -/
structure HashCore where
  sha256 : List Byte → Bytes 32
  hmacSha256 : Bytes 32 → List Byte → Bytes 32

/-- The construction parameters of R9, passed in at initialisation (R149 step 1). -/
structure Params where
  rootKey : Bytes 32
  seedQuot : List Byte
  seedHkdf : List Byte
  uid : Bytes 16
  userData : Bytes 32
  ctrInit : Vector Word 2
  vbitsInit : Word
  vlocksInit : Word
  pollLimit : Option Nat
  staleStatusWindow : Bool
  deriving DecidableEq, Repr, Inhabited

/-- What the transport does with one call (40_block_transfer.md R72, R73, R78). -/
inductive LinkOutcome where
  /-- The call moves all its bytes. -/
  | delivered
  /-- The call fails. For a write, bit `k` of `landed` says whether byte `k` of the chunk holds its new value, and
  `accepted` whether a trigger write was nevertheless accepted (R78). -/
  | failed (landed : BitVec 32) (accepted : Bool)
  deriving DecidableEq, Repr, Inhabited

namespace Config

/-- SHA-256 as the hash core computes it (R121, log 1). -/
opaque sha256 : List Byte → Bytes 32

/-- HMAC-SHA256 as the hash core computes it (R121, log 1). -/
opaque hmacSha256 : Bytes 32 → List Byte → Bytes 32

/-- The construction parameters of instance `unit`: R9 gives them no default (log 3). -/
opaque params (unit : Nat) : Params

/-- The `n`-th `draw()` of instance `unit`, where a byte is drawn (R10, log 2). -/
opaque freeByte (unit n : Nat) : Byte

/-- The same where the draw is how many host steps pass before the device's next step (R84, R87, log 7). -/
opaque freeDelay (unit n : Nat) : Nat

/-- The same where the draw is what the transport does with a call (R72, R78, log 8). -/
opaque freeLink (unit n : Nat) : LinkOutcome

end Config

end Sys2Proof
end

