-- ==== Sys2Proof/Machine/Bytes.lean ====
section
/-!
DEFINITION. Byte-order helpers and the tag bytes of 00_scope.md R10, R44.
-/

namespace Sys2Proof.Machine

open Sys2Proof

/-- `zext_32` of a byte (R10, R64). -/
def zext32 (b : Byte) : Word := b.setWidth 32

/-- `le32(v)`, the 4-byte little-endian encoding (R10, R43). -/
def le32 (v : Word) : List Byte :=
  [v.extractLsb' 0 8, v.extractLsb' 8 8, v.extractLsb' 16 8, v.extractLsb' 24 8]

/-- `from_le32(b)` of R10: each byte weighs 256 times the one before. -/
def fromLe32 (b : List Byte) : Word :=
  BitVec.ofNat 32 (b.foldr (fun x rest => x.toNat + 256 * rest) 0)

/-- The ASCII bytes of "QUOT", no terminator and no length (R10, D4, log 19). -/
def tagQuot : List Byte := [0x51, 0x55, 0x4F, 0x54]

/-- The ASCII bytes of "HKDF" (R10, D4, log 19). -/
def tagHkdf : List Byte := [0x48, 0x4B, 0x44, 0x46]

/-- 32 bytes of 0x00 (R10). -/
def zero32 : Bytes 32 := Vector.replicate 32 0x00

end Sys2Proof.Machine
end

