-- ==== Sys2Proof/Machine/KeyDerivation.lean ====
section
/-!
DEFINITION. The purpose-bound keys and the HKDF function (44_key_derivation_attestation.md R122, R123, R125), over any
hash core.
-/

namespace Sys2Proof.Machine

open Sys2Proof

/-- The external hash core of this machine: the configuration functions of R121 (log 1). -/
def hashCore : HashCore := ⟨Config.sha256, Config.hmacSha256⟩

/-- `derived_key(T, S) = HMAC_SHA256(ROOT_KEY, S ‖ T)`: the seed first, then the tag (R122, 90_conflicts.md C9). -/
def derivedKey (h : HashCore) (rootKey : Bytes 32) (tag seed : List Byte) : Bytes 32 :=
  h.hmacSha256 rootKey (seed ++ tag)

/-- `K_QUOT` of an instance built from `p` (R123). -/
def quoteKey (h : HashCore) (p : Params) : Bytes 32 := derivedKey h p.rootKey tagQuot p.seedQuot

/-- `K_HKDF` of an instance built from `p` (R123). -/
def hkdfKey (h : HashCore) (p : Params) : Bytes 32 := derivedKey h p.rootKey tagHkdf p.seedHkdf

/-- `hkdf(seed)` under the HKDF key (R125). -/
def hkdfDigest (h : HashCore) (kHkdf : Bytes 32) (seed : List Byte) : Bytes 32 := h.hmacSha256 kHkdf seed

end Sys2Proof.Machine
end

