-- ==== Sys2Proof/Machine/State.lean ====
section
/-!
DEFINITION. The state of one device instance and of the host that drives it (10_state.md R13, R14; 00_scope.md R7),
and the state after initialisation (R33, 70_reset_and_hazards.md R149).
-/

namespace Sys2Proof.Machine

open Sys2Proof

/-- The sequencing state (10_state.md R18). -/
inductive Phase where
  | idle
  | commandPending
  | executing
  | completed
  deriving DecidableEq, Repr

/-- The six model faults of 60_exceptions.md R134. All are safe: the machine stops where the source leaves a use of
the block undefined or forbids it. -/
inductive Fault where
  /-- A transfer with `off + n > 0x100` (R42, R74, R75). Raised by transport calls and block operations; safe. -/
  | outOfWindow
  /-- A transport call of 0 or more than 32 bytes (R46). Raised by transport calls; safe. -/
  | transferSize
  /-- A host write in CommandPending or Executing (R47, R86). Raised by MemWrite; safe. -/
  | writeWhileBusy
  /-- A host write covering a byte of 0x54 to 0xFF (R47). Raised by MemWrite; safe. -/
  | writeToReadOnly
  /-- A write touching 0x50 to 0x53 other than exactly those four bytes (R47). Raised by MemWrite; safe. -/
  | malformedTrigger
  /-- A trigger with an undefined opcode or operands out of range (R67, R83). Raised when the device accepts the
  command, and by a command's meaning on operands R66 excludes; safe. -/
  | undefinedCommand
  deriving DecidableEq, Repr

/-- Why a step has no meaning. -/
inductive Refusal where
  /-- An instruction of the table without a meaning yet. Raised by no arm of this model; safe. -/
  | notModelled (mnemonic : String)
  /-- The phase is Executing and no command is latched. Raised by the device's step in states no run reaches (R83
  latches a command whenever it enters Executing, log 14); safe. -/
  | nothingLatched
  deriving DecidableEq, Repr

/-- The command the device latched at acceptance: `LCMD` of R13, R29. -/
structure LatchedCommand where
  /-- `opcode`, `arg0`, `arg1` and `arg2`. -/
  trigger : Trigger
  /-- `BUF[0 +: n]` at acceptance. -/
  data : List Byte
  deriving DecidableEq, Repr

/-- Which check of a host operation failed (60_exceptions.md R135; 41 R88; 42 R98 to R104; 43 R111, R112). -/
inductive FailedCheck where
  | pcrIndex
  | counterIndex
  | fieldMask
  | addend
  | payloadLength
  | responseLength
  deriving DecidableEq, Repr

/-- Which call a transport failure names (R135); the poll limit counts as one (R88, R89). -/
inductive FailedCall where
  | read (off n : Nat)
  | write (off n : Nat)
  | pollLimit
  deriving DecidableEq, Repr

/-- The four kinds of host error and what each carries (R135). -/
inductive HostError where
  | invalidArgument (check : FailedCheck)
  | protocolViolation (check : FailedCheck)
  | transportFailure (call : FailedCall)
  | commandFailed (status0 status1 : Byte)
  deriving DecidableEq, Repr

/-- What the application asks of the host. Offsets are bytes (R42). -/
inductive HostCall where
  /-- One raw transport read (R72). -/
  | memRead (off : Byte) (n : Nat)
  /-- One raw transport write (R72). -/
  | memWrite (off : Byte) (bytes : List Byte)
  /-- R74. -/
  | blockRead (off : Byte) (len : Nat)
  /-- R75. -/
  | blockWrite (off : Byte) (bytes : List Byte)
  /-- R88. -/
  | execute (opcode arg0 arg1 arg2 : Byte) (payload : List Byte) (responseLength : Nat)
  /-- R90. -/
  | executeChecked (opcode arg0 arg1 arg2 : Byte) (payload : List Byte) (responseLength : Nat)
  /-- R96. -/
  | nop
  /-- R98. -/
  | extend (index : Nat) (data : List Byte)
  /-- R100. -/
  | quote (mask : Nat) (nonce : List Byte)
  /-- R102. -/
  | increment (index addend : Nat)
  /-- R104. -/
  | hkdf (seed : List Byte)
  /-- R111. -/
  | readPcr (index : Nat)
  /-- R112. -/
  | readCounter (index : Nat)
  /-- R113. -/
  | readVolatileBits
  /-- R114. -/
  | readVolatileLocks
  /-- R115. -/
  | readUserData
  /-- R116. -/
  | readIdentity
  deriving DecidableEq, Repr

/-- What the caller of the framing layer gets: `execute`'s triple (R88), `execute_checked`'s payload (R90), or the raw
pair of the INCREMENT wrapper (R102). -/
inductive Framing where
  | raw
  | checked
  | pair
  deriving DecidableEq, Repr

/-- The arguments of one `execute` (R88). -/
structure Execute where
  opcode : Byte
  arg0 : Byte
  arg1 : Byte
  arg2 : Byte
  payload : List Byte
  responseLength : Nat
  framing : Framing
  deriving DecidableEq, Repr

/-- What a block read's bytes are returned as: themselves, or `from_le32` of them (R112 to R114). -/
inductive ReadUse where
  | bytes
  | word
  deriving DecidableEq, Repr

/-- The host's call under way and how far it has come. -/
inductive HostTask where
  | idle
  /-- About to issue one raw read. -/
  | rawRead (off n : Nat)
  /-- About to issue one raw write. -/
  | rawWrite (off : Nat) (bytes : List Byte)
  /-- BlockRead, with the bytes read so far (R74). -/
  | blockRead (off len : Nat) (out : List Byte) (use : ReadUse)
  /-- BlockWrite, with the offset of the next chunk and the bytes not yet written (R75). -/
  | blockWrite (off : Nat) (rest : List Byte)
  /-- `execute` step 2, the payload (R88). -/
  | payload (off : Nat) (rest : List Byte) (x : Execute)
  /-- `execute` step 3, the trigger. -/
  | trigger (x : Execute)
  /-- `execute` step 4, after `polls` status reads. -/
  | poll (polls : Nat) (x : Execute)
  /-- `execute` step 5, the response read, after the pair was read. -/
  | response (status0 status1 : Byte) (out : List Byte) (x : Execute)
  deriving DecidableEq, Repr

/-- What a finished host call returned to its caller (R138). -/
inductive HostReturn where
  /-- A write. -/
  | written
  /-- A read, an accessor of bytes, or `execute_checked`'s response. -/
  | bytes (b : List Byte)
  /-- An accessor of a 32-bit field. -/
  | word (w : Word)
  /-- The INCREMENT wrapper's raw pair (R102). -/
  | status (status0 status1 : Byte)
  /-- `execute`'s triple (R88). -/
  | framed (status0 status1 : Byte) (response : List Byte)
  | error (e : HostError)
  deriving DecidableEq, Repr

/-- The device's state (R13), the host's (R7), the parameters that outlive initialisation (R9), and the model's own
bookkeeping of free choices. -/
structure State where
  /-- Data buffer, window 0x00 to 0x4F (R13, R36). -/
  buf : Bytes 80
  /-- Command trigger, window 0x50 to 0x53 (R17). -/
  trig : Trigger
  /-- status0, window 0x54 (R27). -/
  st0 : Byte
  /-- status1, window 0x55 (R27). -/
  st1 : Byte
  /-- Volatile bits, window 0x58 to 0x5B (R23). -/
  vbits : Word
  /-- Lock word, window 0x5C to 0x5F (R23). -/
  vlocks : Word
  /-- Counters, window 0x60 to 0x67 (R21). -/
  ctr : Vector Word 2
  /-- User data, window 0x70 to 0x8F (R24). -/
  user : Bytes 32
  /-- Measurement registers, window 0x90 to 0xEF (R19). -/
  pcr : Vector (Bytes 32) 3
  /-- Device identity, window 0xF0 to 0xFF (R24). -/
  uid : Bytes 16
  /-- Root secret, hidden (R25). -/
  rootKey : Bytes 32
  /-- Derived quote key, hidden (R25). -/
  kQuot : Bytes 32
  /-- Derived HKDF key, hidden (R25). -/
  kHkdf : Bytes 32
  /-- Sequencing state, hidden (R18). -/
  phase : Phase
  /-- Latched command, hidden (R29). -/
  lcmd : Option LatchedCommand
  /-- The fault recorded, if any (R30, R134). -/
  fault : Option Fault
  /-- The host's poll bound (R9, R89). -/
  pollLimit : Option Nat
  /-- Whether a status read right after a trigger sees the old pair (R9, R81). -/
  staleStatusWindow : Bool
  /-- Host calls not yet begun, first come first (R53, R91). -/
  calls : List HostCall
  /-- The host call under way. -/
  task : HostTask
  /-- What the finished calls returned, oldest first. -/
  returned : List HostReturn
  /-- Which device instance this is (R35); the model's own, it keeps instances' free values apart (log 24). -/
  unit : Nat
  /-- How many draws have been taken; the model's own (log 2). -/
  draws : Nat
  /-- How many host steps go before the device's next step; the model's own (log 7). -/
  deviceDelay : Nat
  /-- What the transport does with the next call; the model's own (log 8). -/
  link : LinkOutcome
  deriving DecidableEq, Repr

/-- Initialisation (R149, R33) of instance `unit` from parameters `p`, the draws numbered from `d`. -/
def State.initial (h : HashCore) (p : Params) (unit d : Nat) : State where
  buf := Vector.ofFn fun k => Config.freeByte unit (d + k.val)
  trig := ⟨Config.freeByte unit (d + 80), Config.freeByte unit (d + 81), Config.freeByte unit (d + 82),
    Config.freeByte unit (d + 83)⟩
  st0 := Config.freeByte unit (d + 84)
  st1 := Config.freeByte unit (d + 85)
  vbits := p.vbitsInit
  vlocks := p.vlocksInit
  ctr := p.ctrInit
  user := p.userData
  pcr := Vector.replicate 3 zero32
  uid := p.uid
  rootKey := p.rootKey
  kQuot := quoteKey h p
  kHkdf := hkdfKey h p
  phase := .idle
  lcmd := none
  fault := none
  pollLimit := p.pollLimit
  staleStatusWindow := p.staleStatusWindow
  calls := []
  task := .idle
  returned := []
  unit := unit
  draws := d + 87
  deviceDelay := 0
  link := Config.freeLink unit (d + 86)

/-- The machine after initialisation: the configured hash core and parameters, `stale_status_window` at the spec's
value `false` (R9, log 4), instance 0, no draw taken before (log 2, log 24). -/
def State.reset : State :=
  State.initial hashCore { Config.params 0 with staleStatusWindow := false } 0 0

end Sys2Proof.Machine
end

