-- ==== Sys2Proof/Machine/Flags.lean ====
section
/-!
DEFINITION. The status pair, the block's only condition codes (10_state.md R27, R28; 60_exceptions.md R136).
-/

namespace Sys2Proof.Machine

open Sys2Proof

/-- The busy sentinel in status0 (R8, R27). -/
def busyStatus : Byte := 0xFF

/-- The success pair (R8, R27). -/
def successStatus : Byte × Byte := (0xC3, 0x00)

/-- What a status pair means to the host. -/
inductive StatusMeaning where
  | busy
  | success
  | error
  deriving DecidableEq, Repr

/-- The table of R136, row by row. -/
def statusMeaning (status0 status1 : Byte) : StatusMeaning :=
  if status0 = busyStatus then .busy
  else if (status0, status1) = successStatus then .success
  else .error

/-- `busy`: the phase is CommandPending or Executing (R47). -/
def State.busy (s : State) : Bool :=
  match s.phase with
  | .commandPending | .executing => true
  | .idle | .completed => false

end Sys2Proof.Machine
end

