-- ==== Sys2Proof/Machine/Operands.lean ====
section
/-!
DEFINITION. What the argument bytes select (30_encoding.md R63, R64, R66; 42_commands.md R92), and the quote message
(44_key_derivation_attestation.md R126 to R129).
-/

namespace Sys2Proof.Machine

open Sys2Proof

/-- The PCR an index byte selects, if it is in range (R64, R66). -/
def pcrIndex (b : Byte) : Option (Fin 3) :=
  if h : b.toNat < 3 then some ⟨b.toNat, h⟩ else none

/-- The counter an index byte selects, if it is in range (R64, R66). -/
def counterIndex (b : Byte) : Option (Fin 2) :=
  if h : b.toNat < 2 then some ⟨b.toNat, h⟩ else none

/-- Whether a length byte is at most MAX_PAYLOAD (R8, R66). -/
def lengthInRange (b : Byte) : Bool := decide (b.toNat ≤ 80)

/-- `payload_len` of R92: the argument byte the opcode names. -/
def payloadLength : Instr → Nat
  | .nop _ _ _ => 0
  | .extend _ length _ => length.toNat
  | .quote _ length _ => length.toNat
  | .increment _ _ _ => 0
  | .hkdf length _ _ => length.toNat

/-- The response length `r` of R92. -/
def responseLength : Instr → Nat
  | .nop _ _ _ => 0
  | .extend _ _ _ => 0
  | .quote _ _ _ => 32
  | .increment _ _ _ => 0
  | .hkdf _ _ _ => 32

/-- The data of the latched command (R29); empty where nothing is latched. -/
def State.latchedData (s : State) : List Byte :=
  match s.lcmd with
  | some c => c.data
  | none => []

/-- A field's bytes where its mask bit is set, and none where it is clear (R126, R127). -/
def selected (mask : Byte) (bit : Nat) (field : List Byte) : List Byte :=
  if mask.getLsbD bit then field else []

/-- The selected fields in descending bit order (R126, R127). -/
def quoteFields (mask : Byte) (s : State) : List Byte :=
  selected mask 7 s.uid.toList
  ++ selected mask 6 (le32 s.vbits ++ le32 s.vlocks)
  ++ selected mask 5 (le32 s.ctr[0])
  ++ selected mask 4 (le32 s.ctr[1])
  ++ selected mask 3 s.user.toList
  ++ selected mask 2 s.pcr[2].toList
  ++ selected mask 1 s.pcr[1].toList
  ++ selected mask 0 s.pcr[0].toList

/-- `QuoteMsg(mask, nonce, s)` of R126: tag, mask as 32 bits, selected fields, and the nonce last (an empty nonce adds
nothing, R132). -/
def quoteMsg (mask : Byte) (nonce : List Byte) (s : State) : List Byte :=
  tagQuot ++ le32 (zext32 mask) ++ quoteFields mask s ++ nonce

/-- `quote(mask, nonce)` of R128 over a hash core. -/
def quoteDigest (h : HashCore) (mask : Byte) (nonce : List Byte) (s : State) : Bytes 32 :=
  h.hmacSha256 s.kQuot (quoteMsg mask nonce s)

/-- The value EXTEND gives a PCR: `SHA256(PCR ‖ d)` (R97). -/
def extendDigest (h : HashCore) (pcr : Bytes 32) (data : List Byte) : Bytes 32 :=
  h.sha256 (pcr.toList ++ data)

end Sys2Proof.Machine
end

