-- ==== Sys2Proof/Machine/Ops.lean ====
section
/-!
DEFINITION. The named operations over the window and the registers: reading and writing the window (20_memory.md R47),
accepting a trigger (41_command_protocol.md R80), latching and completing a command (R83, R85), the outcomes of a
transport call (40_block_transfer.md R72, R78), and recording a fault (60_exceptions.md R134), which is all the block
has in the place of an exception (R140).
-/

namespace Sys2Proof.Machine

open Sys2Proof

/-! ### Draws -/

/-- The byte that draw number `k` from here gives (R10). -/
def State.free (s : State) (k : Nat) : Byte := Config.freeByte s.unit (s.draws + k)

/-- `n` draws have been taken. -/
def State.spend (s : State) (n : Nat) : State := { s with draws := s.draws + n }

/-- The transport's outcome for the call after this one is drawn. -/
def State.relink (s : State) : State :=
  { s with link := Config.freeLink s.unit s.draws, draws := s.draws + 1 }

/-! ### Register updates -/

/-- `BUF <- b`. -/
def State.withBuf (s : State) (b : Bytes 80) : State := { s with buf := b }

/-- `TRIG <- t`. -/
def State.withTrig (s : State) (t : Trigger) : State := { s with trig := t }

/-- `PCR[i] <- v`, the others unchanged (R20). -/
def State.withPcr (s : State) (i : Fin 3) (v : Bytes 32) : State := { s with pcr := s.pcr.set i v }

/-- `CTR[i] <- v`, the other unchanged (R22). -/
def State.withCtr (s : State) (i : Fin 2) (v : Word) : State := { s with ctr := s.ctr.set i v }

/-! ### Faults -/

/-- `raise Fault(kind)`: the step ends with the fault; nothing is saved and nothing is vectored (R134, R140). -/
def raiseFault (k : Fault) : Host.Outcome State Fault Refusal := .fault k

/-- `fault <- kind` (R134), the bookkeeping a run that goes on past the fault would carry. -/
def State.recordFault (s : State) (k : Fault) : State := { s with fault := some k }

/-! ### The window -/

/-- The byte of the field that stands at offset `a`, or nothing at the trigger and the reserved bytes, whose reads are
always draws (R14, R47). Every byte from 0x58 is a view of its field (R15), little-endian where it has 32 bits (R43). -/
def State.fieldByte (s : State) (a : Nat) : Option Byte :=
  if a < 0x50 then s.buf[a]?
  else if a < 0x54 then none
  else if a = 0x54 then some s.st0
  else if a = 0x55 then some s.st1
  else if a < 0x58 then none
  else if a < 0x5C then (le32 s.vbits)[a - 0x58]?
  else if a < 0x60 then (le32 s.vlocks)[a - 0x5C]?
  else if a < 0x64 then (le32 s.ctr[0])[a - 0x60]?
  else if a < 0x68 then (le32 s.ctr[1])[a - 0x64]?
  else if a < 0x70 then none
  else if a < 0x90 then s.user[a - 0x70]?
  else if a < 0xB0 then s.pcr[0][a - 0x90]?
  else if a < 0xD0 then s.pcr[1][a - 0xB0]?
  else if a < 0xF0 then s.pcr[2][a - 0xD0]?
  else s.uid[a - 0xF0]?

/-- The byte a host read finds at offset `a`, or nothing where R47 makes it a draw: while busy only the status pair can
be read. -/
def State.windowByte (s : State) (a : Nat) : Option Byte :=
  if s.busy ∧ ¬ (a = 0x54 ∨ a = 0x55) then none else s.fieldByte a

/-- The cells the host can read now, by rising offset: the window as data (R41). -/
def State.window (s : State) : List Host.Cell :=
  (List.range 0x100).filterMap fun a => (s.windowByte a).map fun b => (a, b)

/-- The canonical form of a list of cells: offsets rise strictly and stay in the window. -/
abbrev Memory.wf (m : List Host.Cell) : Prop :=
  m.Pairwise (fun x y => x.1 < y.1) ∧ ∀ c ∈ m, c.1 < 0x100

/-- The bounds and size checks of any transport call (R42, R46); the bounds come first (R137, log 10). -/
def transferFault (off n : Nat) : Option Fault :=
  if 0x100 < off + n then some .outOfWindow
  else if n = 0 ∨ 32 < n then some .transferSize
  else none

/-- The checks of a write, in the order of R47. -/
def writeFault (s : State) (off n : Nat) : Option Fault :=
  match transferFault off n with
  | some k => some k
  | none =>
    if s.busy then some .writeWhileBusy
    else if 0x54 < off + n then some .writeToReadOnly
    else if 0x50 < off + n then if off = 0x50 ∧ n = 4 then none else some .malformedTrigger
    else none

/-- The bytes of a read of `n` bytes at `off`, draws where R47 says so. -/
def State.readBytes (s : State) (off n : Nat) : List Byte :=
  (List.range n).map fun k => (s.windowByte (off + k)).getD (s.free k)

/-- `MemRead(off, n)` of R47: no effect on the device (R48). -/
def memRead (s : State) (off n : Nat) : Except Fault (List Byte × State) :=
  match transferFault off n with
  | some k => .error k
  | none => .ok (s.readBytes off n, s.spend n)

/-- The buffer with the bytes `v` stored from offset `off`; bytes past its end go nowhere. -/
@[irreducible] def overlay (b : Bytes 80) (off : Nat) (v : List Byte) : Bytes 80 :=
  Vector.ofFn fun k => if off ≤ k.val then (v[k.val - off]?).getD b[k] else b[k]

/-- Accepting a trigger write (R80, R81): busy is visible at once unless `stale_status_window`. How long the device
takes is drawn (R84, R87). -/
def acceptTrigger (s : State) (t : Trigger) : State :=
  { s with
    trig := t
    phase := .commandPending
    st0 := if s.staleStatusWindow then s.st0 else busyStatus
    st1 := if s.staleStatusWindow then s.st1 else s.free 0
    deviceDelay := Config.freeDelay s.unit s.draws
    draws := s.draws + 1 }

/-- The effect of a delivered write that `writeFault` lets through (R47). -/
def applyWrite (s : State) (off : Nat) (v : List Byte) : State :=
  if off = 0x50 then
    match v with
    | [a0, a1, a2, op] => acceptTrigger s ⟨a0, a1, a2, op⟩
    | _ => s
  else s.withBuf (overlay s.buf off v)

/-- `MemWrite(off, n, v)` of R47, `n` the length of `v`. -/
def memWrite (s : State) (off : Nat) (v : List Byte) : Except Fault State :=
  match writeFault s off v.length with
  | some k => .error k
  | none => .ok (applyWrite s off v)

/-! ### Transport calls -/

/-- How one transport call ends: with a result, with a transport failure, or as a model fault. -/
inductive CallResult (α : Type) where
  | done (a : α) (s : State)
  | failed (s : State)
  | fault (k : Fault)

/-- The chunk as it lands: byte `k` new where `landed` says so, else as it was (R78). -/
def landedChunk (landed : BitVec 32) (old : Nat → Byte) (v : List Byte) : List Byte :=
  v.mapIdx fun k x => if landed.getLsbD k then x else old k

/-- What a failed write leaves (R78): each byte of the chunk old or new, and a trigger write accepted or not (log 9). -/
def failedWrite (s : State) (off : Nat) (v : List Byte) (landed : BitVec 32) (accepted : Bool) : State :=
  if off = 0x50 then
    match landedChunk landed (fun k => (s.trig.bytes[k]?).getD 0) v with
    | [a0, a1, a2, op] =>
      if accepted then acceptTrigger s ⟨a0, a1, a2, op⟩ else s.withTrig ⟨a0, a1, a2, op⟩
    | _ => s
  else s.withBuf (overlay s.buf off (landedChunk landed (fun k => (s.buf[off + k]?).getD 0) v))

/-- One transport read: R47's effect when delivered, none on the block when it fails (R72, R78). -/
def transportRead (s : State) (off n : Nat) : CallResult (List Byte) :=
  match memRead s off n with
  | .error k => .fault k
  | .ok (bytes, t) =>
    match s.link with
    | .delivered => .done bytes t.relink
    | .failed _ _ => .failed s.relink

/-- One transport write: R47's effect when delivered, one of R78's outcomes when it fails. -/
def transportWrite (s : State) (off : Nat) (v : List Byte) : CallResult Unit :=
  match memWrite s off v with
  | .error k => .fault k
  | .ok t =>
    match s.link with
    | .delivered => .done () t.relink
    | .failed landed accepted => .failed (failedWrite s off v landed accepted).relink

/-! ### The device's two steps -/

/-- The latching half of ACCEPT (R83): the command and `BUF[0 +: n]` are latched, the status is busy, and how long the
device takes is drawn anew. -/
def latchCommand (s : State) (i : Instr) : State :=
  { s with
    lcmd := some ⟨s.trig, s.buf.toList.take (payloadLength i)⟩
    st0 := busyStatus
    st1 := s.free 0
    phase := .executing
    deviceDelay := Config.freeDelay s.unit s.draws
    draws := s.draws + 1 }

/-- The buffer a completed command leaves: the response and then draws; all draws after an error pair (R37, R38, R85). -/
@[irreducible] def completedBuf (s : State) (resp : List Byte) (pair : Byte × Byte) : Bytes 80 :=
  Vector.ofFn fun k =>
    if pair = successStatus then (resp[k.val]?).getD (s.free k.val) else s.free k.val

/-- The completion step of R85 after the command's own effects: response, final pair, Completed. -/
def completeCommand (s : State) (resp : List Byte) (pair : Byte × Byte) : State :=
  { s with
    buf := completedBuf s resp pair
    st0 := pair.1
    st1 := pair.2
    phase := .completed
    draws := s.draws + 80 }

end Sys2Proof.Machine
end

