-- ==== Sys2Proof/Machine/Attestation.lean ====
section
/-!
DEFINITION. The meanings of QUOTE and HKDF (42_commands.md R99, R103).
-/

namespace Sys2Proof.Machine

open Sys2Proof

/-- QUOTE: the response is `HMAC_SHA256(K_QUOT, QuoteMsg(mask, nonce))` with the latched nonce; no other effect,
success (R99, R128). A length out of range is an undefined command (R66, R67). -/
def execQuote (mask length : Byte) (s : State) : Host.Outcome State Fault Refusal :=
  if lengthInRange length then
    .next (completeCommand s (quoteDigest hashCore mask s.latchedData s).toList successStatus)
  else raiseFault .undefinedCommand

/-- HKDF: the response is `HMAC_SHA256(K_HKDF, seed)` with the latched seed; no other effect, success (R103, R125).
A length out of range is an undefined command (R66, R67). -/
def execHkdf (length : Byte) (s : State) : Host.Outcome State Fault Refusal :=
  if lengthInRange length then
    .next (completeCommand s (hkdfDigest hashCore s.kHkdf s.latchedData).toList successStatus)
  else raiseFault .undefinedCommand

end Sys2Proof.Machine
end

