-- ==== Sys2Proof/Machine/Counters.lean ====
section
/-!
DEFINITION. The meaning of INCREMENT (42_commands.md R101, R105).
-/

namespace Sys2Proof.Machine

open Sys2Proof

/-- INCREMENT: `CTR[i] <- (CTR[i] + zext_32(a)) mod 2^32`; no response, success (R101). An index out of range or an
addend of 0 is an undefined command (R66, R67, D16). -/
def execIncrement (index addend : Byte) (s : State) : Host.Outcome State Fault Refusal :=
  match counterIndex index, decide (1 ≤ addend.toNat) with
  | some i, true => .next (completeCommand (s.withCtr i (s.ctr[i] + zext32 addend)) [] successStatus)
  | _, _ => raiseFault .undefinedCommand

end Sys2Proof.Machine
end

