-- ==== Sys2Proof/Machine/Measurement.lean ====
section
/-!
DEFINITION. The meaning of EXTEND (42_commands.md R97).
-/

namespace Sys2Proof.Machine

open Sys2Proof

/-- EXTEND: `PCR[i] <- SHA256(PCR[i] ‖ d)` with the latched data `d`; no response, success (R97). Operands out of range
are an undefined command (R66, R67). -/
def execExtend (index length : Byte) (s : State) : Host.Outcome State Fault Refusal :=
  match pcrIndex index, lengthInRange length with
  | some i, true =>
    .next (completeCommand (s.withPcr i (extendDigest hashCore s.pcr[i] s.latchedData)) [] successStatus)
  | _, _ => raiseFault .undefinedCommand

end Sys2Proof.Machine
end

