-- ==== Sys2Proof/Machine/Nop.lean ====
section
/-!
DEFINITION. The meaning of NOP (42_commands.md R95).
-/

namespace Sys2Proof.Machine

open Sys2Proof

/-- NOP: no effect, no response, success; the buffer becomes draws (R95, R37). -/
def execNop (s : State) : Host.Outcome State Fault Refusal :=
  .next (completeCommand s [] successStatus)

end Sys2Proof.Machine
end

