-- ==== Sys2Proof/Machine/Dispatch.lean ====
section
/-!
DEFINITION. `Exec(LCMD, state)` of 42_commands.md R93: one arm per command. The unused argument bytes reach no meaning
(30_encoding.md R68).
-/

namespace Sys2Proof.Machine

open Sys2Proof

def exec (i : Instr) (s : State) : Host.Outcome State Fault Refusal :=
  match i with
  | .nop _ _ _ => Sys2Proof.Machine.execNop s
  | .extend index length _ => Sys2Proof.Machine.execExtend index length s
  | .quote mask length _ => Sys2Proof.Machine.execQuote mask length s
  | .increment index addend _ => Sys2Proof.Machine.execIncrement index addend s
  | .hkdf length _ _ => Sys2Proof.Machine.execHkdf length s

end Sys2Proof.Machine
end

