-- ==== Sys2Proof/Machine/HostAgent.lean ====
section
/-!
DEFINITION. The host agent: block transfers (40_block_transfer.md R74 to R79), framing (41_command_protocol.md R88 to
R91), the wrappers (30_encoding.md R71; 42_commands.md R96 to R104) and the accessors (43_accessors.md R111 to R116).
A host step takes up the next call, with its checks and no transfer, or makes exactly one transport call (log 16).
-/

namespace Sys2Proof.Machine

open Sys2Proof

/-! ### What a call comes down to -/

/-- The work a call stands for once its own checks have passed. -/
inductive HostPlan where
  | rawRead (off n : Nat)
  | rawWrite (off : Nat) (bytes : List Byte)
  | read (off len : Nat) (use : ReadUse)
  | write (off : Nat) (bytes : List Byte)
  | frame (x : Execute)
  deriving DecidableEq, Repr

/-- The check a call's wrapper makes before any transfer, in the order of its rule (R98, R100, R102, R104, R111, R112,
R137). -/
def argumentError : HostCall → Option FailedCheck
  | .extend index data =>
    if 2 < index then some .pcrIndex else if 80 < data.length then some .payloadLength else none
  | .quote mask nonce =>
    if 0xFF < mask then some .fieldMask else if 80 < nonce.length then some .payloadLength else none
  | .increment index addend =>
    if 1 < index then some .counterIndex else if addend < 1 ∨ 255 < addend then some .addend else none
  | .hkdf seed => if 80 < seed.length then some .payloadLength else none
  | .readPcr index => if 2 < index then some .pcrIndex else none
  | .readCounter index => if 1 < index then some .counterIndex else none
  | .memRead _ _ => none
  | .memWrite _ _ => none
  | .blockRead _ _ => none
  | .blockWrite _ _ => none
  | .execute _ _ _ _ _ _ => none
  | .executeChecked _ _ _ _ _ _ => none
  | .nop => none
  | .readVolatileBits => none
  | .readVolatileLocks => none
  | .readUserData => none
  | .readIdentity => none

/-- A length as an argument byte. -/
def lengthByte (b : List Byte) : Byte := BitVec.ofNat 8 b.length

/-- The expansion of a call: R71 for the commands, R111 to R116 for the accessors. -/
def hostPlan : HostCall → HostPlan
  | .memRead off n => .rawRead off.toNat n
  | .memWrite off bytes => .rawWrite off.toNat bytes
  | .blockRead off len => .read off.toNat len .bytes
  | .blockWrite off bytes => .write off.toNat bytes
  | .execute op a0 a1 a2 payload rlen => .frame ⟨op, a0, a1, a2, payload, rlen, .raw⟩
  | .executeChecked op a0 a1 a2 payload rlen => .frame ⟨op, a0, a1, a2, payload, rlen, .checked⟩
  | .nop => .frame ⟨0x00, 0, 0, 0, [], 0, .checked⟩
  | .extend index data => .frame ⟨0xE0, BitVec.ofNat 8 index, lengthByte data, 0, data, 0, .checked⟩
  | .quote mask nonce => .frame ⟨0xA0, BitVec.ofNat 8 mask, lengthByte nonce, 0, nonce, 32, .checked⟩
  | .increment index addend => .frame ⟨0xC0, BitVec.ofNat 8 index, BitVec.ofNat 8 addend, 0, [], 0, .pair⟩
  | .hkdf seed => .frame ⟨0xB0, lengthByte seed, 0, 0, seed, 32, .checked⟩
  | .readPcr index => .read (0x90 + 32 * index) 32 .bytes
  | .readCounter index => .read (0x60 + 4 * index) 4 .word
  | .readVolatileBits => .read 0x58 4 .word
  | .readVolatileLocks => .read 0x5C 4 .word
  | .readUserData => .read 0x70 32 .bytes
  | .readIdentity => .read 0xF0 16 .bytes

/-! ### Tasks -/

/-- The host goes on with `t`. -/
def State.withTask (s : State) (t : HostTask) : State := { s with task := t }

/-- The call under way ends and returns `r` to its caller (R138). -/
def State.finish (s : State) (r : HostReturn) : State :=
  { s with task := .idle, returned := s.returned ++ [r] }

/-- The queue of calls becomes `cs`. -/
def State.withCalls (s : State) (cs : List HostCall) : State := { s with calls := cs }

/-- What a finished block read returns. -/
def readResult (use : ReadUse) (out : List Byte) : HostReturn :=
  match use with
  | .bytes => .bytes out
  | .word => .word (fromLe32 out)

/-- What a finished `execute` returns to its caller: R88 step 6, R90, R102. -/
def frameResult (x : Execute) (status0 status1 : Byte) (resp : List Byte) : HostReturn :=
  match x.framing with
  | .raw => .framed status0 status1 resp
  | .pair => .status status0 status1
  | .checked =>
    if (status0, status1) = successStatus then .bytes resp else .error (.commandFailed status0 status1)

/-- The local checks of `execute` (R88 step 1, D28), in their order (R137). -/
def frameError (x : Execute) : Option HostError :=
  if 80 < x.payload.length then some (.invalidArgument .payloadLength)
  else if 80 < x.responseLength then some (.protocolViolation .responseLength)
  else none

/-- `execute` up to its first transfer: an empty payload writes nothing (R79, R88). -/
def startFrame (s : State) (x : Execute) : State :=
  match frameError x with
  | some e => s.finish (.error e)
  | none => if x.payload.isEmpty then s.withTask (.trigger x) else s.withTask (.payload 0 x.payload x)

/-- A call up to its first transfer. A block operation that leaves the window faults before any transfer, and one of
length 0 issues none (R74, R75, R79). -/
def startPlan (s : State) : HostPlan → Host.Outcome State Fault Refusal
  | .rawRead off n => .next (s.withTask (.rawRead off n))
  | .rawWrite off bytes => .next (s.withTask (.rawWrite off bytes))
  | .read off len use =>
    if 0x100 < off + len then raiseFault .outOfWindow
    else if len = 0 then .next (s.finish (readResult use []))
    else .next (s.withTask (.blockRead off len [] use))
  | .write off bytes =>
    if 0x100 < off + bytes.length then raiseFault .outOfWindow
    else if bytes.isEmpty then .next (s.finish .written)
    else .next (s.withTask (.blockWrite off bytes))
  | .frame x => .next (startFrame s x)

/-- Taking up a call: an argument error ends it before any transfer (R135). -/
def startCall (s : State) (c : HostCall) : Host.Outcome State Fault Refusal :=
  match argumentError c with
  | some check => .next (s.finish (.error (.invalidArgument check)))
  | none => startPlan s (hostPlan c)

/-! ### One transport call of the task under way -/

/-- The size of the next chunk of `left` bytes (R74, R75). -/
def chunk (left : Nat) : Nat := min 32 left

/-- One read of the task under way, and how the task goes on with its bytes; a failure ends the call (R77). -/
def readThen (s : State) (off n : Nat) (goOn : State → List Byte → State) : Host.Outcome State Fault Refusal :=
  match transportRead s off n with
  | .fault k => raiseFault k
  | .failed t => .next (t.finish (.error (.transportFailure (.read off n))))
  | .done bytes t => .next (goOn t bytes)

/-- One write of the task under way, and how the task goes on; a failure ends the call (R77). -/
def writeThen (s : State) (off : Nat) (v : List Byte) (goOn : State → State) : Host.Outcome State Fault Refusal :=
  match transportWrite s off v with
  | .fault k => raiseFault k
  | .failed t => .next (t.finish (.error (.transportFailure (.write off v.length))))
  | .done _ t => .next (goOn t)

/-- BlockRead after a chunk: done when `len` bytes are there (R74). -/
def blockReadOn (off len : Nat) (out : List Byte) (use : ReadUse) (t : State) (bytes : List Byte) : State :=
  if len ≤ (out ++ bytes).length then t.finish (readResult use (out ++ bytes))
  else t.withTask (.blockRead off len (out ++ bytes) use)

/-- BlockWrite after a chunk: done when nothing is left (R75). -/
def blockWriteOn (off : Nat) (rest : List Byte) (t : State) : State :=
  if rest.isEmpty then t.finish .written else t.withTask (.blockWrite off rest)

/-- `execute` after a payload chunk: the next chunk or the trigger (R88 steps 2 and 3). -/
def payloadOn (off : Nat) (rest : List Byte) (x : Execute) (t : State) : State :=
  if rest.isEmpty then t.withTask (.trigger x) else t.withTask (.payload off rest x)

/-- Whether the host gives up after `polls` busy status reads (R88, R89). -/
def pollGivesUp (limit : Option Nat) (polls : Nat) : Bool :=
  match limit with
  | none => false
  | some l => decide (l ≤ polls)

/-- `execute` after status read number `polls`: byte 0 is status0, byte 1 status1, the rest is ignored (R88 step 4,
R89). -/
def pollOn (polls : Nat) (x : Execute) (t : State) (bytes : List Byte) : State :=
  match bytes with
  | status0 :: status1 :: _ =>
    if status0 = busyStatus then
      if pollGivesUp t.pollLimit polls then t.finish (.error (.transportFailure .pollLimit))
      else t.withTask (.poll polls x)
    else if x.responseLength = 0 then t.finish (frameResult x status0 status1 [])
    else t.withTask (.response status0 status1 [] x)
  | _ => t

/-- `execute` after a chunk of the response (R88 steps 5 and 6). -/
def responseOn (status0 status1 : Byte) (out : List Byte) (x : Execute) (t : State) (bytes : List Byte) : State :=
  if x.responseLength ≤ (out ++ bytes).length then t.finish (frameResult x status0 status1 (out ++ bytes))
  else t.withTask (.response status0 status1 (out ++ bytes) x)

/-- The host with no call under way: the next call of the queue, or nothing to do (R150, log 15). -/
def hostIdle (s : State) : Host.Outcome State Fault Refusal :=
  match s.calls with
  | [] => .next s
  | c :: cs => startCall (s.withCalls cs) c

/-- One step of the host. -/
def hostStep (s : State) : Host.Outcome State Fault Refusal :=
  match s.task with
  | .idle => hostIdle s
  | .rawRead off n => readThen s off n fun t bytes => t.finish (.bytes bytes)
  | .rawWrite off v => writeThen s off v fun t => t.finish .written
  | .blockRead off len out use =>
    readThen s (off + out.length) (chunk (len - out.length)) (blockReadOn off len out use)
  | .blockWrite off rest =>
    writeThen s off (rest.take (chunk rest.length))
      (blockWriteOn (off + chunk rest.length) (rest.drop (chunk rest.length)))
  | .payload off rest x =>
    writeThen s off (rest.take (chunk rest.length))
      (payloadOn (off + chunk rest.length) (rest.drop (chunk rest.length)) x)
  | .trigger x => writeThen s 0x50 [x.arg0, x.arg1, x.arg2, x.opcode] fun t => t.withTask (.poll 0 x)
  | .poll polls x => readThen s 0x54 4 (pollOn (polls + 1) x)
  | .response status0 status1 out x =>
    readThen s out.length (chunk (x.responseLength - out.length)) (responseOn status0 status1 out x)

end Sys2Proof.Machine
end

