-- ==== Sys2Proof/Machine/LifeCycle.lean ====
section
/-!
DEFINITION. The device's side of the command life cycle (41_command_protocol.md R82 to R87): acceptance, fetching the
latched command, and which agent moves next.
-/

namespace Sys2Proof.Machine

open Sys2Proof

/-- The device step ACCEPT (R83): a valid command is latched; anything else is an undefined command. -/
def acceptCommand (s : State) : Host.Outcome State Fault Refusal :=
  match decode s.trig with
  | .error _ => raiseFault .undefinedCommand
  | .ok i => if i.wellFormed then .next (latchCommand s i) else raiseFault .undefinedCommand

/-- Whether the host has nothing under way and nothing queued. -/
def State.hostQuiet (s : State) : Bool :=
  match s.task, s.calls with
  | .idle, [] => true
  | _, _ => false

/-- Whether the device moves next: it is busy, and the host steps that go first are used up or the host has no step to
take (R84, R87, log 7). -/
def State.deviceTurn (s : State) : Bool :=
  s.busy && (decide (s.deviceDelay = 0) || s.hostQuiet)

/-- The state in which the host takes a step before the busy device's. -/
def State.tick (s : State) : State :=
  { s with deviceDelay := if s.busy then s.deviceDelay - 1 else s.deviceDelay }

/-- What happens next. -/
inductive Move where
  /-- A fault stands recorded or is raised at once; nothing follows it (R134, R141). -/
  | halted (k : Fault)
  /-- The host's turn. -/
  | host
  /-- The device's step ACCEPT (R83). -/
  | accept
  /-- The device's step COMPLETE on the latched command (R85, R93). -/
  | run (i : Instr)
  /-- The device is executing and has latched nothing: no run reaches this (log 14). -/
  | nothingLatched
  deriving DecidableEq, Repr

/-- The fetch: the command the device completes is decoded from `LCMD` (R58, R93). No undefined one is ever latched;
where one stands there, it is an undefined command still. -/
def fetchLatched (s : State) : Move :=
  match s.lcmd with
  | none => .nothingLatched
  | some c =>
    match decode c.trigger with
    | .ok i => .run i
    | .error _ => .halted .undefinedCommand

/-- The device's next step: ACCEPT in CommandPending, COMPLETE in Executing. -/
def deviceMove (s : State) : Move :=
  match s.phase with
  | .commandPending => .accept
  | _ => fetchLatched s

/-- Which agent moves next and how. -/
def nextMove (s : State) : Move :=
  match s.fault with
  | some k => .halted k
  | none => if s.deviceTurn then deviceMove s else .host

/-- The latched command for the trigger bytes `t`: what ACCEPT would latch, with no check (R83). -/
def latchedFor (s : State) (t : Trigger) : LatchedCommand :=
  match decode t with
  | .ok i => ⟨t, s.buf.toList.take (payloadLength i)⟩
  | .error _ => ⟨t, []⟩

/-- The state in which the command of trigger `t` stands latched and the device moves next. -/
def State.withLatched (s : State) (t : Trigger) : State :=
  { s with
    trig := t
    lcmd := some (latchedFor s t)
    phase := .executing
    fault := none
    deviceDelay := 0 }

end Sys2Proof.Machine
end

