-- ==== Sys2Proof/Machine/Step.lean ====
section
/-!
DEFINITION. One step of the machine: one atomic step of the device or of the host (20_memory.md R50, R53).
-/

namespace Sys2Proof.Machine

open Sys2Proof

/-- The step. COMPLETE is `exec` of the latched command (R85, R93). -/
def step (s : State) : Host.Outcome State Fault Refusal :=
  match nextMove s with
  | .halted k => .fault k
  | .host => hostStep s.tick
  | .accept => acceptCommand s
  | .run i => exec i s
  | .nothingLatched => .refused .nothingLatched

/-- The state whose next step fetches and runs the instruction of these bits: its trigger stands in `TRIG` and latched
in `LCMD`, the device is Executing and moves next (log 12). -/
def State.withFetchWord (s : State) (nbits w : Nat) : State := s.withLatched (tableTrigger nbits w)

end Sys2Proof.Machine
end

