-- ==== Sys2Proof/Machine/StandardHash.lean ====
section
/-!
DEFINITION. The hash core of 44_key_derivation_attestation.md R120: SHA-256 of FIPS 180-4 and HMAC of RFC 2104 over it.
PRESUMED: the spec names FIPS 180-4 and gives none of its constants (93_implementation_defined.md G2, log 26). The
machine does not run on it: its hash core is the opaque one of R121 (log 1). It is the core that the spec's test vectors
were computed with (95_test_vectors.md).
-/

namespace Sys2Proof.Machine.StandardHash

open Sys2Proof

/-- The greatest number of at most `b` more bits on top of `r` whose `k`-th power is at most `x`: one bit at a time, the
highest first. -/
def root (k x : Nat) : Nat → Nat → Nat
  | 0, r => r
  | b + 1, r => root k x b (if (r + 2 ^ b) ^ k ≤ x then r + 2 ^ b else r)

/-- The first 32 bits of the fraction of the `k`-th root of `p`: FIPS 180-4 takes its constants so from the primes. -/
def rootFraction (k p : Nat) : Word := BitVec.ofNat 32 (root k (p * 2 ^ (32 * k)) 36 0)

/-- The first 64 primes: the numbers from 2 to 311 that no smaller one from 2 on divides. -/
def primes : List Nat :=
  ((List.range 310).map (· + 2)).filter fun n => (List.range 17).all fun d => d + 2 == n || n % (d + 2) != 0

/-- The round constants, from the cube roots of the first 64 primes. -/
def roundConstants : List Word := primes.map (rootFraction 3)

/-- The eight working variables. -/
structure Chain where
  (a b c d e f g h : Word)

/-- The initial hash value, from the square roots of the first eight primes. -/
def initialValue : Chain where
  a := rootFraction 2 2
  b := rootFraction 2 3
  c := rootFraction 2 5
  d := rootFraction 2 7
  e := rootFraction 2 11
  f := rootFraction 2 13
  g := rootFraction 2 17
  h := rootFraction 2 19

/-- Rotation to the right. -/
def rotr (x : Word) (n : Nat) : Word := (x >>> n) ||| (x <<< (32 - n))

/-- One round with constant `k` and schedule word `w`. -/
def round (v : Chain) (k w : Word) : Chain :=
  let t1 := v.h + (rotr v.e 6 ^^^ rotr v.e 11 ^^^ rotr v.e 25) + ((v.e &&& v.f) ^^^ (~~~v.e &&& v.g)) + k + w
  let t2 := (rotr v.a 2 ^^^ rotr v.a 13 ^^^ rotr v.a 22) + ((v.a &&& v.b) ^^^ (v.a &&& v.c) ^^^ (v.b &&& v.c))
  ⟨t1 + t2, v.a, v.b, v.c, v.d + t1, v.e, v.f, v.g⟩

/-- The rounds of one block, over a sliding window of the last 16 schedule words. -/
def rounds : List Word → List Word → Chain → Chain
  | [], _, v => v
  | k :: ks, w, v =>
    let w1 := w.getD 1 0
    let w14 := w.getD 14 0
    let s0 := rotr w1 7 ^^^ rotr w1 18 ^^^ (w1 >>> 3)
    let s1 := rotr w14 17 ^^^ rotr w14 19 ^^^ (w14 >>> 10)
    rounds ks (w.drop 1 ++ [w.getD 0 0 + s0 + w.getD 9 0 + s1]) (round v k (w.getD 0 0))

/-- The sum of two chains, word by word. -/
def Chain.plus (x y : Chain) : Chain :=
  ⟨x.a + y.a, x.b + y.b, x.c + y.c, x.d + y.d, x.e + y.e, x.f + y.f, x.g + y.g, x.h + y.h⟩

/-- Big-endian words. -/
def wordsOf : List Byte → List Word
  | a :: b :: c :: d :: rest => (a ++ b ++ c ++ d : BitVec 32) :: wordsOf rest
  | _ => []

/-- The bytes of a word, most significant first. -/
def bytesOf (w : Word) : List Byte :=
  [w.extractLsb' 24 8, w.extractLsb' 16 8, w.extractLsb' 8 8, w.extractLsb' 0 8]

/-- The message's length in bits, as 64 bits, most significant byte first. -/
def lengthField (bytes : Nat) : List Byte :=
  (List.range 8).reverse.map fun k => BitVec.ofNat 8 (8 * bytes / 256 ^ k)

/-- The message padded to whole blocks of 64 bytes. -/
def pad (m : List Byte) : List Byte :=
  m ++ [0x80] ++ List.replicate ((119 - m.length % 64) % 64) 0 ++ lengthField m.length

/-- The chain after `n` blocks. -/
def blocks : Nat → List Word → Chain → Chain
  | 0, _, v => v
  | n + 1, ws, v => blocks n (ws.drop 16) (v.plus (rounds roundConstants (ws.take 16) v))

/-- The 32 bytes of a chain. -/
def Chain.digest (c : Chain) : Bytes 32 :=
  Vector.ofFn fun k => ([c.a, c.b, c.c, c.d, c.e, c.f, c.g, c.h].flatMap bytesOf).getD k.val 0

/-- SHA-256. -/
def sha256 (m : List Byte) : Bytes 32 :=
  (blocks ((pad m).length / 64) (wordsOf (pad m)) initialValue).digest

/-- A 32-byte key zero-padded to the 64-byte block, each byte exclusive-or the pad byte (R120). -/
def padKey (k : Bytes 32) (x : Byte) : List Byte := (k.toList ++ List.replicate 32 0).map fun b => b ^^^ x

/-- HMAC-SHA256 with inner pad 0x36 and outer pad 0x5C (R120). -/
def hmacSha256 (k : Bytes 32) (m : List Byte) : Bytes 32 :=
  sha256 (padKey k 0x5C ++ (sha256 (padKey k 0x36 ++ m)).toList)

/-- The hash core of R120. -/
def core : HashCore := ⟨sha256, hmacSha256⟩

end Sys2Proof.Machine.StandardHash
end

