-- ==== Sys2Proof/Machine/Session.lean ====
section
/-!
DEFINITION. What stands around one instance's steps: the run that carries a fault on (60_exceptions.md R134), a new
session after loss of power (R148, 10_state.md R34), and several instances side by side (10_state.md R35, 20_memory.md
R60).
-/

namespace Sys2Proof.Machine

open Sys2Proof

/-- The state after a step with R134's bookkeeping: a fault is recorded and kept. No claim may rest on the other fields
of a state that records a fault (R134, log 13). -/
def advance (s : State) : State :=
  match step s with
  | .next t => t
  | .fault k => s.recordFault k
  | .refused _ => s

/-- The session after loss of power: initialisation from parameters passed in again, with draws of its own (R148). -/
def newSession (h : HashCore) (p : Params) (s : State) : State := State.initial h p s.unit s.draws

/-- One step of instance `k` among several (R35). -/
def advanceInstance (devices : List State) (k : Nat) : List State :=
  match devices[k]? with
  | some s => devices.set k (advance s)
  | none => devices

end Sys2Proof.Machine
end

