-- ==== Sys2Proof/Safety.lean ====
section
/-!
DEFINITION. What counts as a good state, and the terms the claims use: the invariant of the life cycle, what the host
may do while it waits, the named assumption about the hash core (44_key_derivation_attestation.md R121), and outcomes
up to a change of state.
-/

namespace Sys2Proof.Machine

open Sys2Proof

/-- `valid(op, a0, a1, a2)` of R66, written as the spec writes it. -/
def TriggerValid (t : Trigger) : Prop :=
  t.opcode = 0x00
  ∨ (t.opcode = 0xE0 ∧ t.arg0.toNat ≤ 2 ∧ t.arg1.toNat ≤ 80)
  ∨ (t.opcode = 0xA0 ∧ t.arg1.toNat ≤ 80)
  ∨ (t.opcode = 0xC0 ∧ t.arg0.toNat ≤ 1 ∧ 1 ≤ t.arg1.toNat)
  ∨ (t.opcode = 0xB0 ∧ t.arg0.toNat ≤ 80)

/-- A command stands latched only as ACCEPT latches it: defined, valid, and with the payload its operands name (R29,
R83). -/
def LatchOk (s : State) : Prop :=
  ∀ c, s.lcmd = some c →
    ∃ i, decode c.trigger = .ok i ∧ i.wellFormed = true ∧ c.data.length = payloadLength i

/-- What the status pair says in each phase (R28): busy from acceptance on (from the trigger on unless
`stale_status_window`), success once Completed (R94). Executing has a command latched (R83). -/
def PhaseOk (s : State) : Prop :=
  match s.phase with
  | .idle => True
  | .commandPending => s.staleStatusWindow = false → s.st0 = busyStatus
  | .executing => s.st0 = busyStatus ∧ s.lcmd ≠ none
  | .completed => (s.st0, s.st1) = successStatus

/-- The chunks still to come of the task under way stay where its call put them (R74, R75, R88). -/
def TaskOk : HostTask → Prop
  | .idle => True
  | .rawRead _ _ => True
  | .rawWrite _ _ => True
  | .blockRead off len out _ => out.length < len ∧ off + len ≤ 0x100
  | .blockWrite off rest => rest ≠ [] ∧ off + rest.length ≤ 0x100
  | .payload off rest x => rest ≠ [] ∧ off + rest.length ≤ 80 ∧ x.responseLength ≤ 80
  | .trigger x => x.responseLength ≤ 80
  | .poll _ x => x.responseLength ≤ 80
  | .response _ _ out x => out.length < x.responseLength ∧ x.responseLength ≤ 80

/-- The invariant of every run: no fault is recorded, and the latch, the phase and the task are as above. -/
structure State.Inv (s : State) : Prop where
  noFault : s.fault = none
  latch : LatchOk s
  phase : PhaseOk s
  task : TaskOk s.task

/-- The host has queued nothing more and is making no write: it waits, polls or reads (R152). -/
def State.onlyReads (s : State) : Prop :=
  s.calls = [] ∧
  match s.task with
  | .idle | .blockRead _ _ _ _ | .poll _ _ | .response _ _ _ _ => True
  | .rawRead _ _ | .rawWrite _ _ | .blockWrite _ _ | .payload _ _ _ | .trigger _ => False

/-- A pending trigger names a valid command (R66). -/
def State.pendingValid (s : State) : Prop :=
  s.phase = .commandPending → TriggerValid s.trig

/-- The named assumption of R121 about one pair of messages: the core does not map them, being different, to one
digest. -/
def CollisionFreeAt (h : HashCore) (key : Bytes 32) (m m' : List Byte) : Prop :=
  m ≠ m' → h.hmacSha256 key m ≠ h.hmacSha256 key m'

/-- The device faults when it accepts a trigger that `bad` describes (R67, R83). -/
def AcceptanceFaultsOn (bad : Trigger → Prop) : Prop :=
  ∀ s : State, s.fault = none → s.phase = .commandPending → s.deviceTurn = true → bad s.trig →
    step s = .fault .undefinedCommand

/-- The call is one block read inside the window, and the bytes that read finds now are returned as `r` (R110). -/
def AccessorReads (s : State) (c : HostCall) (r : HostReturn) : Prop :=
  ∃ off len use, hostPlan c = .read off len use ∧ 1 ≤ len ∧ off + len ≤ 0x100 ∧
    readResult use (s.readBytes off len) = r

/-- An outcome with its next state changed by `f`. -/
def mapNext (f : State → State) : Host.Outcome State Fault Refusal → Host.Outcome State Fault Refusal
  | .next s => .next (f s)
  | .fault k => .fault k
  | .refused r => .refused r

end Sys2Proof.Machine
end

