-- ==== Sys2Proof/Certificates/Slice0/Obligations.lean ====
section
/-!
DEFINITION. The statements for the provers. Each docstring names the rule or the section of spec/ it formalises, and the
log entry it rests on where it rests on one.
-/

open Sys2Proof Sys2Proof.Machine

/-! ### Encoding -/

/-- 30_encoding.md R61, R63: the decoder reads every command back from the word of its own trigger, every argument
byte at every value. -/
def Obligations.DecodingAnEncodedWordGivesTheCommand : Prop :=
  ∀ i : Instr, decodeTableWord 32 (encode i).word.toNat = some i

/-- 30_encoding.md R61, R69: a word that decodes is the word of the command it decodes to; no bit is dropped. -/
def Obligations.EncodingADecodedWordGivesTheWord : Prop :=
  ∀ (w : Nat) (i : Instr), w < 2 ^ 32 → decodeTableWord 32 w = some i → (encode i).word.toNat = w

/-- R65: in the word view the mask 0xFF000000 and the five match values select the commands. -/
def Obligations.OpcodeByteSelectsTheCommand : Prop :=
  ∀ w : Word,
    (w &&& 0xFF000000 = 0x00000000 ↔ ∃ a b c, decode (Trigger.ofWord w) = .ok (.nop a b c)) ∧
    (w &&& 0xFF000000 = 0xB0000000 ↔ ∃ a b c, decode (Trigger.ofWord w) = .ok (.hkdf a b c)) ∧
    (w &&& 0xFF000000 = 0xA0000000 ↔ ∃ a b c, decode (Trigger.ofWord w) = .ok (.quote a b c)) ∧
    (w &&& 0xFF000000 = 0xC0000000 ↔ ∃ a b c, decode (Trigger.ofWord w) = .ok (.increment a b c)) ∧
    (w &&& 0xFF000000 = 0xE0000000 ↔ ∃ a b c, decode (Trigger.ofWord w) = .ok (.extend a b c))

/-- 30_encoding.md R66 (with its decisions D14, D16; log 17, log 23): what decodes to a well-formed command is exactly
what the spec's `valid` admits. -/
def Obligations.WellFormedCommandsAreTheValidTriggers : Prop :=
  ∀ t : Trigger, (∃ i, decode t = .ok i ∧ i.wellFormed = true) ↔ TriggerValid t

/-- 95_test_vectors.md section 3.3: words written out from the spec's encodings. -/
def Obligations.SpecWordsDecode : Prop :=
  decodeTableWord 32 0x00CCBBAA = some (.nop 0xAA 0xBB 0xCC) ∧
  decodeTableWord 32 0xE0005002 = some (.extend 2 80 0) ∧
  decodeTableWord 32 0xA0000481 = some (.quote 0x81 4 0) ∧
  decodeTableWord 32 0xC000FF01 = some (.increment 1 255 0) ∧
  decodeTableWord 32 0xB0000003 = some (.hkdf 3 0 0) ∧
  decodeTableWord 32 0x01000000 = none ∧ decodeTableWord 32 0xFF000000 = none

/-- 30_encoding.md R68 (its decision D14, log 17): the argument bytes R63 marks unused change neither how much is
latched nor what is executed, and the host's wrappers write 0x00 there. -/
def Obligations.UnusedArgumentBytesChangeNothing : Prop :=
  (∀ (a b c a' b' c' : Byte) (s : State), exec (.nop a b c) s = exec (.nop a' b' c') s ∧
    payloadLength (.nop a b c) = payloadLength (.nop a' b' c')) ∧
  (∀ (i n c c' : Byte) (s : State), exec (.extend i n c) s = exec (.extend i n c') s ∧
    payloadLength (.extend i n c) = payloadLength (.extend i n c')) ∧
  (∀ (m n c c' : Byte) (s : State), exec (.quote m n c) s = exec (.quote m n c') s ∧
    payloadLength (.quote m n c) = payloadLength (.quote m n c')) ∧
  (∀ (i a c c' : Byte) (s : State), exec (.increment i a c) s = exec (.increment i a c') s ∧
    payloadLength (.increment i a c) = payloadLength (.increment i a c')) ∧
  (∀ (n b c b' c' : Byte) (s : State), exec (.hkdf n b c) s = exec (.hkdf n b' c') s ∧
    payloadLength (.hkdf n b c) = payloadLength (.hkdf n b' c')) ∧
  (∀ x, hostPlan .nop = .frame x → x.arg0 = 0 ∧ x.arg1 = 0 ∧ x.arg2 = 0) ∧
  (∀ i d x, hostPlan (.extend i d) = .frame x → x.arg2 = 0) ∧
  (∀ m c x, hostPlan (.quote m c) = .frame x → x.arg2 = 0) ∧
  (∀ i a x, hostPlan (.increment i a) = .frame x → x.arg2 = 0) ∧
  (∀ d x, hostPlan (.hkdf d) = .frame x → x.arg1 = 0 ∧ x.arg2 = 0)

/-! ### The five commands: completion, result and frame -/

/-- R95: NOP completes in every state, with the success pair and no other effect than the buffer's, whatever its
argument bytes. The field `draws` counts the model's draws (log 2). -/
def Obligations.NopChangesOnlyBufferAndStatus : Prop :=
  ∀ (a b c : Byte) (s : State), ∃ buf : Bytes 80,
    exec (.nop a b c) s = .next
      { s with buf := buf, st0 := 0xC3, st1 := 0x00, phase := .completed, draws := s.draws + 80 }

/-- R97: EXTEND hashes the selected PCR with the latched data, and changes nothing else but buffer and status; an
index over 2 or a length over 80 faults at acceptance. The hash core is the configured one (R121, log 1). -/
def Obligations.ExtendChainsTheLatchedData : Prop :=
  (∀ (index length arg2 : Byte) (s : State) (c : LatchedCommand) (h : index.toNat < 3),
    length.toNat ≤ 80 → s.lcmd = some c → ∃ buf : Bytes 80,
    exec (.extend index length arg2) s = .next
      { s with
        pcr := s.pcr.set index.toNat (Config.sha256 (s.pcr[index.toNat].toList ++ c.data))
        buf := buf, st0 := 0xC3, st1 := 0x00, phase := .completed, draws := s.draws + 80 }) ∧
  AcceptanceFaultsOn fun t => t.opcode = 0xE0 ∧ (2 < t.arg0.toNat ∨ 80 < t.arg1.toNat)

/-- 42_commands.md R99, 44_key_derivation_attestation.md R126, R128: QUOTE puts the keyed digest of the quote message
at the start of the buffer, and changes nothing else but buffer and status; a length over 80 faults at acceptance.
That the mask stands in the message as four bytes is the spec's decision D32 (92_eei_decisions.md, log 31). -/
def Obligations.QuoteReturnsTheKeyedDigest : Prop :=
  (∀ (mask length arg2 : Byte) (s : State) (c : LatchedCommand),
    length.toNat ≤ 80 → s.lcmd = some c → ∃ buf : Bytes 80,
    exec (.quote mask length arg2) s = .next
      { s with buf := buf, st0 := 0xC3, st1 := 0x00, phase := .completed, draws := s.draws + 80 } ∧
    buf.toList.take 32 = (Config.hmacSha256 s.kQuot
      (([0x51, 0x55, 0x4F, 0x54] : List Byte) ++ [mask, 0x00, 0x00, 0x00]
        ++ (if mask.getLsbD 7 then s.uid.toList else [])
        ++ (if mask.getLsbD 6 then le32 s.vbits ++ le32 s.vlocks else [])
        ++ (if mask.getLsbD 5 then le32 s.ctr[0] else [])
        ++ (if mask.getLsbD 4 then le32 s.ctr[1] else [])
        ++ (if mask.getLsbD 3 then s.user.toList else [])
        ++ (if mask.getLsbD 2 then s.pcr[2].toList else [])
        ++ (if mask.getLsbD 1 then s.pcr[1].toList else [])
        ++ (if mask.getLsbD 0 then s.pcr[0].toList else [])
        ++ c.data)).toList) ∧
  AcceptanceFaultsOn fun t => t.opcode = 0xA0 ∧ 80 < t.arg1.toNat

/-- 42_commands.md R101, R105: INCREMENT adds the addend to the selected counter modulo 2^32, and changes nothing else
but buffer and status; an index over 1 or an addend of 0 faults at acceptance. That an addend of 0 is no command is
the spec's decision D16 (92_eei_decisions.md, log 23). -/
def Obligations.IncrementAddsModulo32Bits : Prop :=
  (∀ (index addend arg2 : Byte) (s : State) (h : index.toNat < 2), 1 ≤ addend.toNat → ∃ buf : Bytes 80,
    exec (.increment index addend arg2) s = .next
      { s with
        ctr := s.ctr.set index.toNat (BitVec.ofNat 32 ((s.ctr[index.toNat].toNat + addend.toNat) % 2 ^ 32))
        buf := buf, st0 := 0xC3, st1 := 0x00, phase := .completed, draws := s.draws + 80 }) ∧
  AcceptanceFaultsOn fun t => t.opcode = 0xC0 ∧ (1 < t.arg0.toNat ∨ t.arg1 = 0)

/-- R103, R125: HKDF puts the HMAC of the latched seed under the HKDF key, always 32 bytes, at the start of the
buffer, and changes nothing else but buffer and status; a length over 80 faults at acceptance. The hash core is the
configured one (R121, log 1). -/
def Obligations.HkdfReturnsTheSeedDigest : Prop :=
  (∀ (length arg1 arg2 : Byte) (s : State) (c : LatchedCommand),
    length.toNat ≤ 80 → s.lcmd = some c → ∃ buf : Bytes 80,
    exec (.hkdf length arg1 arg2) s = .next
      { s with buf := buf, st0 := 0xC3, st1 := 0x00, phase := .completed, draws := s.draws + 80 } ∧
    buf.toList.take 32 = (Config.hmacSha256 s.kHkdf c.data).toList) ∧
  AcceptanceFaultsOn fun t => t.opcode = 0xB0 ∧ 80 < t.arg0.toNat

/-- 42_commands.md R94 (its decision D33, log 18): every valid command completes with the success pair, and no command
ends with another. -/
def Obligations.ValidCommandsEndWithSuccess : Prop :=
  (∀ (i : Instr) (s : State), i.wellFormed = true →
    ∃ t, exec i s = .next t ∧ (t.st0, t.st1) = (0xC3, 0x00) ∧ t.phase = .completed) ∧
  (∀ (i : Instr) (s t : State), exec i s = .next t → (t.st0, t.st1) = (0xC3, 0x00))

/-- 30_encoding.md R66, R67: a command whose operands are out of range has no meaning but the fault, whatever the
state. That `exec` itself answers so is the model's choice (log 11): no run takes such a command to it. -/
def Obligations.OutOfRangeOperandsFault : Prop :=
  ∀ (i : Instr) (s : State), i.wellFormed = false → exec i s = .fault .undefinedCommand

/-- 10_state.md R20 (derived there from R19): an EXTEND leaves the other PCRs, and every byte of the window outside
the buffer, the status pair and the extended PCR, as they were. -/
def Obligations.ExtendLeavesTheOtherPcrs : Prop :=
  ∀ (index length arg2 : Byte) (s t : State), exec (.extend index length arg2) s = .next t →
    (∀ j : Fin 3, j.val ≠ index.toNat → t.pcr[j] = s.pcr[j]) ∧
    (∀ a, 0x58 ≤ a → a < 0x90 + 32 * index.toNat ∨ 0xB0 + 32 * index.toNat ≤ a → t.fieldByte a = s.fieldByte a)

/-- R22: an INCREMENT leaves the other counter, and every byte of the window outside the buffer, the status pair and
the incremented counter, as they were. -/
def Obligations.IncrementLeavesTheOtherCounter : Prop :=
  ∀ (index addend arg2 : Byte) (s t : State), exec (.increment index addend arg2) s = .next t →
    (∀ j : Fin 2, j.val ≠ index.toNat → t.ctr[j] = s.ctr[j]) ∧
    (∀ a, 0x58 ≤ a → a < 0x60 + 4 * index.toNat ∨ 0x64 + 4 * index.toNat ≤ a → t.fieldByte a = s.fieldByte a)

/-- 42_commands.md R95, R99, R103, 44_key_derivation_attestation.md R133: NOP, QUOTE and HKDF leave every byte of the
window from 0x58 on as it was. -/
def Obligations.NopQuoteHkdfLeaveTheWindowFields : Prop :=
  ∀ (i : Instr) (s t : State), exec i s = .next t →
    (match i with
      | .nop _ _ _ | .quote _ _ _ | .hkdf _ _ _ => True
      | .extend _ _ _ | .increment _ _ _ => False) →
    ∀ a, 0x58 ≤ a → t.fieldByte a = s.fieldByte a

/-- 42_commands.md R106 (derived there from R97): two extends of a zero PCR give the nested digest, in the order they
were made. -/
def Obligations.TwoExtendsNestTheirDigests : Prop :=
  ∀ (index n1 n2 : Byte) (d1 d2 : List Byte) (tr : Trigger) (s t u : State) (h : index.toNat < 3),
    s.pcr[index.toNat] = zero32 → s.lcmd = some ⟨tr, d1⟩ → exec (.extend index n1 0) s = .next t →
    exec (.extend index n2 0) { t with lcmd := some ⟨tr, d2⟩ } = .next u →
    u.pcr[index.toNat] = Config.sha256 ((Config.sha256 (zero32.toList ++ d1)).toList ++ d2)

/-! ### Quote and keys -/

/-- 44_key_derivation_attestation.md R129 (derived there from R126): the length of the quote message, and its bounds. -/
def Obligations.QuoteMessageLength : Prop :=
  ∀ (mask : Byte) (nonce : List Byte) (s : State),
    (quoteMsg mask nonce s).length = 8 + 16 * (mask.getLsbD 7).toNat + 8 * (mask.getLsbD 6).toNat
      + 4 * (mask.getLsbD 5).toNat + 4 * (mask.getLsbD 4).toNat
      + 32 * ((mask.getLsbD 3).toNat + (mask.getLsbD 2).toNat + (mask.getLsbD 1).toNat + (mask.getLsbD 0).toNat)
      + nonce.length ∧
    8 ≤ (quoteMsg mask nonce s).length ∧
    (nonce.length ≤ 80 → (quoteMsg mask nonce s).length ≤ 248) ∧
    (quoteMsg 0x00 [] s).length = 8 ∧
    (nonce.length = 80 → (quoteMsg 0xFF nonce s).length = 248)

/-- 44_key_derivation_attestation.md R132 (derived there from R126): the nonce comes last, whatever the mask; an empty
one adds nothing. -/
def Obligations.NonceEndsTheQuoteMessage : Prop :=
  ∀ (mask : Byte) (nonce : List Byte) (s : State), quoteMsg mask nonce s = quoteMsg mask [] s ++ nonce

/-- 44_key_derivation_attestation.md R130: states that agree on the quote key and the selected fields give one digest. -/
def Obligations.QuoteIgnoresUnselectedFields : Prop :=
  ∀ (h : HashCore) (mask : Byte) (nonce : List Byte) (s s' : State), s.kQuot = s'.kQuot →
    (mask.getLsbD 7 = true → s.uid = s'.uid) →
    (mask.getLsbD 6 = true → s.vbits = s'.vbits ∧ s.vlocks = s'.vlocks) →
    (mask.getLsbD 5 = true → s.ctr[0] = s'.ctr[0]) → (mask.getLsbD 4 = true → s.ctr[1] = s'.ctr[1]) →
    (mask.getLsbD 3 = true → s.user = s'.user) → (mask.getLsbD 2 = true → s.pcr[2] = s'.pcr[2]) →
    (mask.getLsbD 1 = true → s.pcr[1] = s'.pcr[1]) → (mask.getLsbD 0 = true → s.pcr[0] = s'.pcr[0]) →
    quoteDigest h mask nonce s = quoteDigest h mask nonce s'

/-- 44_key_derivation_attestation.md R130, R121: equal quote messages come from states equal in every selected field,
so two states that differ in one give different digests if the core has no collision at the two messages. -/
def Obligations.QuoteSeesEverySelectedField : Prop :=
  ∀ (h : HashCore) (mask : Byte) (nonce : List Byte) (s s' : State),
    (quoteMsg mask nonce s = quoteMsg mask nonce s' →
      (mask.getLsbD 7 = true → s.uid = s'.uid) ∧
      (mask.getLsbD 6 = true → s.vbits = s'.vbits ∧ s.vlocks = s'.vlocks) ∧
      (mask.getLsbD 5 = true → s.ctr[0] = s'.ctr[0]) ∧ (mask.getLsbD 4 = true → s.ctr[1] = s'.ctr[1]) ∧
      (mask.getLsbD 3 = true → s.user = s'.user) ∧ (mask.getLsbD 2 = true → s.pcr[2] = s'.pcr[2]) ∧
      (mask.getLsbD 1 = true → s.pcr[1] = s'.pcr[1]) ∧ (mask.getLsbD 0 = true → s.pcr[0] = s'.pcr[0])) ∧
    (s.kQuot = s'.kQuot → CollisionFreeAt h s.kQuot (quoteMsg mask nonce s) (quoteMsg mask nonce s') →
      quoteMsg mask nonce s ≠ quoteMsg mask nonce s' → quoteDigest h mask nonce s ≠ quoteDigest h mask nonce s')

/-- 44_key_derivation_attestation.md R124 (derived there from R122): for one seed the two derivations hash different
messages, so the keys differ if HMAC has no collision there. -/
def Obligations.PurposeKeysAreSeparated : Prop :=
  ∀ (h : HashCore) (root : Bytes 32) (seed : List Byte),
    seed ++ tagQuot ≠ seed ++ tagHkdf ∧
    (CollisionFreeAt h root (seed ++ tagQuot) (seed ++ tagHkdf) →
      derivedKey h root tagQuot seed ≠ derivedKey h root tagHkdf seed)

/-! ### Initialisation -/

/-- 10_state.md R33 (with its decisions D17 to D19, D7, D29): every field after initialisation. The draws are free
values of Config (log 2, log 5). -/
def Obligations.InitialisationSetsEveryField : Prop :=
  ∀ (h : HashCore) (p : Params) (unit d : Nat),
    let s := State.initial h p unit d
    (∀ i : Fin 3, s.pcr[i] = zero32) ∧ s.uid = p.uid ∧ s.user = p.userData ∧ s.rootKey = p.rootKey ∧
    s.kQuot = h.hmacSha256 p.rootKey (p.seedQuot ++ [0x51, 0x55, 0x4F, 0x54]) ∧
    s.kHkdf = h.hmacSha256 p.rootKey (p.seedHkdf ++ [0x48, 0x4B, 0x44, 0x46]) ∧
    s.ctr[0] = p.ctrInit[0] ∧ s.ctr[1] = p.ctrInit[1] ∧ s.vbits = p.vbitsInit ∧ s.vlocks = p.vlocksInit ∧
    (∀ k : Fin 80, s.buf[k] = Config.freeByte unit (d + k.val)) ∧
    (∃ j, s.trig = ⟨Config.freeByte unit j, Config.freeByte unit (j + 1), Config.freeByte unit (j + 2),
      Config.freeByte unit (j + 3)⟩ ∧ s.st0 = Config.freeByte unit (j + 4) ∧ s.st1 = Config.freeByte unit (j + 5)) ∧
    s.phase = .idle ∧ s.lcmd = none ∧ s.fault = none

/-- The state after initialisation meets the invariant (10_state.md R33; log 4, log 16). -/
def Obligations.ResetMeetsTheInvariant : Prop := State.reset.Inv

/-- 70_reset_and_hazards.md R150: with no command accepted and nothing asked of the host, nothing changes (log 15). -/
def Obligations.QuietMachineStaysAsItIs : Prop :=
  ∀ s : State, s.fault = none → s.phase = .idle ∨ s.phase = .completed → s.task = .idle → s.calls = [] →
    step s = .next s

/-! ### The window and the transport -/

/-- 20_memory.md R42 (its decision D3), 40_block_transfer.md R74, R75: a transfer that leaves the window is a fault
and does nothing else, whatever its size (log 10); a block operation that leaves it faults when it is taken up, before
any transfer. -/
def Obligations.TransferOutsideTheWindowFaults : Prop :=
  (∀ (s : State) (off n : Nat) (v : List Byte), 0x100 < off + n → v.length = n →
    memRead s off n = .error .outOfWindow ∧ memWrite s off v = .error .outOfWindow) ∧
  (∀ (s : State) (off : Byte) (len : Nat), 0x100 < off.toNat + len →
    startCall s (.blockRead off len) = .fault .outOfWindow) ∧
  (∀ (s : State) (off : Byte) (v : List Byte), 0x100 < off.toNat + v.length →
    startCall s (.blockWrite off v) = .fault .outOfWindow)

/-- 20_memory.md R46: inside the window, a transport call of 0 or more than 32 bytes is a fault (the bounds come
first, log 10). -/
def Obligations.TransferOfWrongSizeFaults : Prop :=
  ∀ (s : State) (off n : Nat) (v : List Byte), off + n ≤ 0x100 → n = 0 ∨ 32 < n → v.length = n →
    memRead s off n = .error .transferSize ∧ memWrite s off v = .error .transferSize

/-- 20_memory.md R47, 60_exceptions.md R137: which fault a write of admissible bounds and size raises, in the order of
R47, and when it raises none. -/
def Obligations.WriteFaultsComeInTheSpecsOrder : Prop :=
  ∀ (s : State) (off : Nat) (v : List Byte), off + v.length ≤ 0x100 → 1 ≤ v.length → v.length ≤ 32 →
    (s.phase = .commandPending ∨ s.phase = .executing → memWrite s off v = .error .writeWhileBusy) ∧
    (s.phase = .idle ∨ s.phase = .completed →
      (0x54 < off + v.length → memWrite s off v = .error .writeToReadOnly) ∧
      (off + v.length ≤ 0x54 → 0x50 < off + v.length → ¬ (off = 0x50 ∧ v.length = 4) →
        memWrite s off v = .error .malformedTrigger) ∧
      (off + v.length ≤ 0x50 ∨ off = 0x50 ∧ v.length = 4 → ∃ t, memWrite s off v = .ok t))

/-- 10_state.md R36, 20_memory.md R48: a write to the buffer of a device that is not busy stores its bytes there and
changes nothing else. -/
def Obligations.BufferWriteStoresExactlyItsBytes : Prop :=
  ∀ (s : State) (off : Nat) (v : List Byte), s.phase = .idle ∨ s.phase = .completed →
    off + v.length ≤ 0x50 → 1 ≤ v.length → v.length ≤ 32 →
    ∃ buf : Bytes 80, memWrite s off v = .ok { s with buf := buf } ∧
      ∀ k : Fin 80,
        (∀ h : off ≤ k.val ∧ k.val - off < v.length, buf[k] = v[k.val - off]) ∧
        (k.val < off ∨ off + v.length ≤ k.val → buf[k] = s.buf[k])

/-- 41_command_protocol.md R80 (its decision D11, log 4): exactly the four-byte write at 0x50 of a device that is not
busy is accepted, with busy visible at once unless `stale_status_window` (R81). -/
def Obligations.TriggerWriteStartsTheCommand : Prop :=
  ∀ (s : State) (a0 a1 a2 op : Byte), s.phase = .idle ∨ s.phase = .completed →
    ∃ (st1 : Byte) (delay : Nat),
      memWrite s 0x50 [a0, a1, a2, op] = .ok
        { s with
          trig := ⟨a0, a1, a2, op⟩
          phase := .commandPending
          st0 := if s.staleStatusWindow then s.st0 else 0xFF
          st1 := if s.staleStatusWindow then s.st1 else st1
          deviceDelay := delay
          draws := s.draws + 1 }

/-- 20_memory.md R45, R47, R48, R49, 10_state.md R36: a read returns each byte from its own field, any value where R47
makes it a draw, and changes nothing but the model's count of draws; a read in the buffer of a device that is not busy
returns the buffer's bytes. -/
def Obligations.ReadsReturnFieldsWithoutSideEffect : Prop :=
  ∀ (s : State) (off n : Nat), off + n ≤ 0x100 → 1 ≤ n → n ≤ 32 →
    ∃ bytes : List Byte, memRead s off n = .ok (bytes, { s with draws := s.draws + n }) ∧ bytes.length = n ∧
      (∀ k b, k < n → s.windowByte (off + k) = some b → bytes[k]? = some b) ∧
      (s.phase = .idle ∨ s.phase = .completed →
        ∀ (k : Nat) (_ : k < n) (h : off + k < 80), bytes[k]? = some s.buf[off + k])

/-- 20_memory.md R47: while busy, only the status pair can be read; every other byte of the window is a draw. Not
busy, only the trigger and the reserved bytes are. -/
def Obligations.OnlyStatusIsReadableWhileBusy : Prop :=
  ∀ (s : State) (a : Nat), a < 0x100 →
    (s.phase = .commandPending ∨ s.phase = .executing →
      ((s.windowByte a).isSome ↔ a = 0x54 ∨ a = 0x55)) ∧
    (s.phase = .idle ∨ s.phase = .completed →
      ((s.windowByte a).isSome ↔
        ¬ (0x50 ≤ a ∧ a ≤ 0x53 ∨ 0x56 ≤ a ∧ a ≤ 0x57 ∨ 0x68 ≤ a ∧ a ≤ 0x6F))) ∧
    s.windowByte 0x54 = some s.st0 ∧ s.windowByte 0x55 = some s.st1

/-- 43_accessors.md R110 to R116, 10_state.md R36, 20_memory.md R43 (log 20): each accessor is one block read of its
window bytes, and while no command is busy these bytes, as the accessor returns them, are its field. The bytes of 0x00
to 0x4F are the buffer's then. -/
def Obligations.AccessorsReadTheirFields : Prop :=
  (∀ i : Nat, hostPlan (.readPcr i) = .read (0x90 + 32 * i) 32 .bytes) ∧
  (∀ i : Nat, hostPlan (.readCounter i) = .read (0x60 + 4 * i) 4 .word) ∧
  hostPlan .readVolatileBits = .read 0x58 4 .word ∧ hostPlan .readVolatileLocks = .read 0x5C 4 .word ∧
  hostPlan .readUserData = .read 0x70 32 .bytes ∧ hostPlan .readIdentity = .read 0xF0 16 .bytes ∧
  ∀ s : State, s.phase = .idle ∨ s.phase = .completed →
    (∀ k : Fin 80, s.windowByte k.val = some s.buf[k]) ∧
    (∀ i : Fin 3, AccessorReads s (.readPcr i.val) (.bytes s.pcr[i].toList)) ∧
    (∀ i : Fin 2, AccessorReads s (.readCounter i.val) (.word s.ctr[i])) ∧
    AccessorReads s .readVolatileBits (.word s.vbits) ∧ AccessorReads s .readVolatileLocks (.word s.vlocks) ∧
    AccessorReads s .readUserData (.bytes s.user.toList) ∧ AccessorReads s .readIdentity (.bytes s.uid.toList)

/-- 40_block_transfer.md R78: after a failed write each byte of the chunk is old or new. A failed buffer write changes
nothing else; a failed trigger write leaves the device as it was but for the trigger bytes, or has the trigger these
bytes now make accepted (log 9). -/
def Obligations.FailedWriteLeavesOldOrNewBytes : Prop :=
  ∀ (s t : State) (off : Nat) (v : List Byte), transportWrite s off v = .failed t →
    (off ≠ 0x50 →
      (∀ k : Fin 80, t.buf[k] = s.buf[k] ∨ ∃ h : off ≤ k.val ∧ k.val - off < v.length, t.buf[k] = v[k.val - off]) ∧
      t = { s with buf := t.buf, draws := t.draws, link := t.link }) ∧
    (off = 0x50 →
      (∀ k, k < 4 → t.trig.bytes[k]? = s.trig.bytes[k]? ∨ t.trig.bytes[k]? = v[k]?) ∧
      (t = { s with trig := t.trig, draws := t.draws, link := t.link } ∨
        ∃ u : State, memWrite s 0x50 t.trig.bytes = .ok u ∧ t = { u with draws := t.draws, link := t.link }))

/-- 40_block_transfer.md R78 (its decision D26, log 9): a failed read has no effect on the block. -/
def Obligations.FailedReadLeavesTheDevice : Prop :=
  ∀ (s t : State) (off n : Nat), transportRead s off n = .failed t →
    t = { s with draws := t.draws, link := t.link } ∧ ∀ a, t.windowByte a = s.windowByte a

/-! ### Block transfers and framing -/

/-- 40_block_transfer.md R75, R76, R77, R78 (log 8): from a device that is not busy, a BlockWrite into the buffer runs
to its end. It has written all its bytes in their places, or it has ended with a transport failure and each byte of
its range is old or new; nothing else has changed. -/
def Obligations.BlockWriteEndsWrittenOrFailed : Prop :=
  ∀ (s : State) (off : Nat) (data : List Byte), s.fault = none → s.phase = .idle ∨ s.phase = .completed →
    s.task = .blockWrite off data → data ≠ [] → off + data.length ≤ 0x50 →
    ∃ (n : Nat) (t : State), core.run n s = .next t ∧
      t = { s with task := .idle, returned := t.returned, buf := t.buf, draws := t.draws, link := t.link } ∧
      ((t.returned = s.returned ++ [.written] ∧ t.buf = overlay s.buf off data) ∨
        ((∃ call, t.returned = s.returned ++ [.error (.transportFailure call)]) ∧
          ∀ k : Fin 80, t.buf[k] = s.buf[k] ∨
            ∃ h : off ≤ k.val ∧ k.val - off < data.length, t.buf[k] = data[k.val - off]))

/-- 40_block_transfer.md R74, R76, R77 (log 8): from a device that is not busy, a BlockRead of bytes that are no draws
runs to its end. It has returned the fields' bytes in order, or a transport failure; the device, its phase, trigger,
latched command and keys among it, is unchanged. -/
def Obligations.BlockReadReturnsTheWindowOrFails : Prop :=
  ∀ (s : State) (off len : Nat), s.fault = none → s.phase = .idle ∨ s.phase = .completed →
    s.task = .blockRead off len [] .bytes → 1 ≤ len → off + len ≤ 0x100 →
    (∀ k, k < len → (s.windowByte (off + k)).isSome) →
    ∃ (n : Nat) (t : State), core.run n s = .next t ∧
      t = { s with task := .idle, returned := t.returned, draws := t.draws, link := t.link } ∧
      ((∃ bytes, t.returned = s.returned ++ [.bytes bytes] ∧ bytes.length = len ∧
          ∀ k, k < len → bytes[k]? = s.windowByte (off + k)) ∨
        ∃ call, t.returned = s.returned ++ [.error (.transportFailure call)])

/-- 60_exceptions.md R135, R137, 41_command_protocol.md R88, R90, 42_commands.md R98, R100, R102, R104,
43_accessors.md R111, R112 (decisions D16, D27, D28, log 33): a call whose arguments are out of range ends at once
with the first failed check, in the spec's order, and no transfer: the state changes in nothing but the call's end. -/
def Obligations.BadArgumentsEndBeforeAnyTransfer : Prop :=
  (∀ (s : State) (c : HostCall) (check : FailedCheck), argumentError c = some check →
    startCall s c = .next
      { s with task := .idle, returned := s.returned ++ [.error (.invalidArgument check)] }) ∧
  (∀ (i : Nat) (d : List Byte), argumentError (.extend i d)
    = if 2 < i then some .pcrIndex else if 80 < d.length then some .payloadLength else none) ∧
  (∀ (m : Nat) (c : List Byte), argumentError (.quote m c)
    = if 0xFF < m then some .fieldMask else if 80 < c.length then some .payloadLength else none) ∧
  (∀ i a : Nat, argumentError (.increment i a)
    = if 1 < i then some .counterIndex else if a < 1 ∨ 255 < a then some .addend else none) ∧
  (∀ d : List Byte, argumentError (.hkdf d) = if 80 < d.length then some .payloadLength else none) ∧
  (∀ i : Nat, argumentError (.readPcr i) = if 2 < i then some .pcrIndex else none) ∧
  (∀ i : Nat, argumentError (.readCounter i) = if 1 < i then some .counterIndex else none) ∧
  (∀ (s : State) (op a0 a1 a2 : Byte) (p : List Byte) (r : Nat),
    (80 < p.length → ∀ c, c = .execute op a0 a1 a2 p r ∨ c = .executeChecked op a0 a1 a2 p r →
      startCall s c = .next
        { s with task := .idle, returned := s.returned ++ [.error (.invalidArgument .payloadLength)] }) ∧
    (p.length ≤ 80 → 80 < r → ∀ c, c = .execute op a0 a1 a2 p r ∨ c = .executeChecked op a0 a1 a2 p r →
      startCall s c = .next
        { s with task := .idle, returned := s.returned ++ [.error (.protocolViolation .responseLength)] }))

/-- 41_command_protocol.md R90 (derived there from R88): `execute_checked` returns the response on the success pair
and fails with the pair on any other. -/
def Obligations.CheckedFramingFailsOnAnyOtherPair : Prop :=
  ∀ (x : Execute) (s0 s1 : Byte) (resp : List Byte), x.framing = .checked →
    ((s0, s1) = (0xC3, 0x00) → frameResult x s0 s1 resp = .bytes resp) ∧
    ((s0, s1) ≠ (0xC3, 0x00) → frameResult x s0 s1 resp = .error (.commandFailed s0 s1))

/-- 41_command_protocol.md R88 step 4, R89: what one delivered status read does to the poll. -/
def Obligations.PollGoesOnWhileBusy : Prop :=
  ∀ (s : State) (polls : Nat) (x : Execute), s.task = .poll polls x → s.link = .delivered →
    ∃ t u : State, hostStep s = .next t ∧ u = { s with draws := u.draws, link := u.link } ∧
      (s.st0 = 0xFF → (∀ l, s.pollLimit = some l → polls + 1 < l) →
        t = { u with task := .poll (polls + 1) x }) ∧
      (s.st0 = 0xFF → (∃ l, s.pollLimit = some l ∧ l ≤ polls + 1) →
        t = { u with task := .idle, returned := s.returned ++ [.error (.transportFailure .pollLimit)] }) ∧
      (s.st0 ≠ 0xFF → x.responseLength = 0 →
        t = { u with task := .idle, returned := s.returned ++ [frameResult x s.st0 s.st1 []] }) ∧
      (s.st0 ≠ 0xFF → x.responseLength ≠ 0 → t = { u with task := .response s.st0 s.st1 [] x })

/-! ### The step -/

/-- 41_command_protocol.md R85, 42_commands.md R93: in Executing, on the device's turn, the step is `exec` of the
command that stands latched. -/
def Obligations.StepRunsTheLatchedCommand : Prop :=
  ∀ (s : State) (c : LatchedCommand) (i : Instr), s.fault = none → s.phase = .executing → s.deviceTurn = true →
    s.lcmd = some c → decode c.trigger = .ok i → i.wellFormed = true → step s = exec i s

/-- The state the host's question places an instruction in: its next step is `exec` of that instruction there (log
12). -/
def Obligations.PlacedWordRunsNext : Prop :=
  ∀ (s : State) (w : Nat) (i : Instr), decodeTableWord 32 w = some i →
    step (s.withFetchWord 32 w) = exec i (s.withFetchWord 32 w)

/-- 41_command_protocol.md R83: in CommandPending, on the device's turn, a valid command is latched with the payload
its operands name. -/
def Obligations.AcceptLatchesAValidCommand : Prop :=
  ∀ (s : State) (i : Instr), s.fault = none → s.phase = .commandPending → s.deviceTurn = true →
    decode s.trig = .ok i → i.wellFormed = true →
    ∃ (st1 : Byte) (delay : Nat), step s = .next
      { s with
        lcmd := some ⟨s.trig, s.buf.toList.take (payloadLength i)⟩
        st0 := 0xFF
        st1 := st1
        phase := .executing
        deviceDelay := delay
        draws := s.draws + 1 }

/-- 30_encoding.md R67 (its decision D13): the acceptance of an undefined opcode, or of operands out of range, is a
fault. -/
def Obligations.InvalidTriggerFaultsAtAcceptance : Prop :=
  ∀ s : State, s.fault = none → s.phase = .commandPending → s.deviceTurn = true → ¬ TriggerValid s.trig →
    step s = .fault .undefinedCommand

/-- R86: while a command is pending or executing, any host write is a fault, a trigger among them. -/
def Obligations.WritesWhileBusyFault : Prop :=
  ∀ s : State, s.phase = .commandPending ∨ s.phase = .executing → s.fault = none → s.deviceTurn = false →
    (match s.task with
      | .rawWrite off v => off + v.length ≤ 0x100 ∧ 1 ≤ v.length ∧ v.length ≤ 32
      | .blockWrite off rest => rest ≠ [] ∧ off + rest.length ≤ 0x100
      | .payload off rest _ => rest ≠ [] ∧ off + rest.length ≤ 80
      | .trigger _ => True
      | .idle | .rawRead _ _ | .blockRead _ _ _ _ | .poll _ _ | .response _ _ _ _ => False) →
    step s = .fault .writeWhileBusy

/-- 41_command_protocol.md R83, R85, 40_block_transfer.md R74, R75: every step from a state that meets the invariant
leads to one that does. -/
def Obligations.EveryStepKeepsTheInvariant : Prop :=
  ∀ s t : State, s.Inv → step s = .next t → t.Inv

/-- 10_state.md R23 (its decision D18, log 21), R24, R26 (derived there from R25): no step writes the keys, the
identity, the user data, the volatile bits or the locks. -/
def Obligations.FixedFieldsNeverChange : Prop :=
  ∀ s t : State, step s = .next t →
    t.rootKey = s.rootKey ∧ t.kQuot = s.kQuot ∧ t.kHkdf = s.kHkdf ∧ t.uid = s.uid ∧ t.user = s.user ∧
    t.vbits = s.vbits ∧ t.vlocks = s.vlocks

/-- R19: the PCRs are zero at first, the only step that changes one is the completion of an EXTEND, and it chains the
latched data into one; no window write sets one. -/
def Obligations.OnlyExtendWritesAPcr : Prop :=
  (∀ i : Fin 3, State.reset.pcr[i] = zero32) ∧
  ∀ s t : State, step s = .next t →
    t.pcr = s.pcr ∨
    ∃ (c : LatchedCommand) (h : c.trigger.arg0.toNat < 3), s.phase = .executing ∧ s.lcmd = some c ∧
      c.trigger.opcode = 0xE0 ∧
      t.pcr = s.pcr.set c.trigger.arg0.toNat (Config.sha256 (s.pcr[c.trigger.arg0.toNat].toList ++ c.data))

/-- R21: the only step that changes a counter is the completion of an INCREMENT, which adds its positive addend modulo
2^32. -/
def Obligations.OnlyIncrementWritesACounter : Prop :=
  ∀ s t : State, step s = .next t →
    t.ctr = s.ctr ∨
    ∃ (c : LatchedCommand) (h : c.trigger.arg0.toNat < 2), s.phase = .executing ∧ s.lcmd = some c ∧
      c.trigger.opcode = 0xC0 ∧ 1 ≤ c.trigger.arg1.toNat ∧
      t.ctr = s.ctr.set c.trigger.arg0.toNat (s.ctr[c.trigger.arg0.toNat] + c.trigger.arg1.setWidth 32)

/-- 10_state.md R18: the phase moves only along the life cycle; Completed is left by a trigger alone (log 27). -/
def Obligations.PhaseFollowsTheLifeCycle : Prop :=
  ∀ s t : State, step s = .next t →
    t.phase = s.phase ∨
    ((s.phase = .idle ∨ s.phase = .completed) ∧ t.phase = .commandPending) ∨
    (s.phase = .commandPending ∧ t.phase = .executing) ∨
    (s.phase = .executing ∧ t.phase = .completed)

/-- 10_state.md R25, R32: no step depends on ROOT_KEY; changed beforehand, it changes nothing but itself. -/
def Obligations.RootKeyInfluencesNoStep : Prop :=
  ∀ (s : State) (k : Bytes 32),
    step { s with rootKey := k } = mapNext (fun t => { t with rootKey := k }) (step s)

/-- 10_state.md R25, R32, 43_accessors.md R117: a step that completes neither QUOTE nor HKDF does not depend on the
derived keys. -/
def Obligations.DerivedKeysShowOnlyInDigests : Prop :=
  ∀ (s : State) (kq kh : Bytes 32),
    (∀ m n a, nextMove s ≠ .run (.quote m n a)) → (∀ n a b, nextMove s ≠ .run (.hkdf n a b)) →
    step { s with kQuot := kq, kHkdf := kh } = mapNext (fun t => { t with kQuot := kq, kHkdf := kh }) (step s)

/-- 10_state.md R30, 60_exceptions.md R134 (their decision D13, log 13): once a fault is set it is never cleared, and
no step follows it. -/
def Obligations.FaultIsNeverCleared : Prop :=
  (∀ (s : State) (k : Fault), s.fault = some k → step s = .fault k ∧ (advance s).fault = some k) ∧
  (∀ (s : State) (k : Fault), step s = .fault k → (advance s).fault = some k ∧ step (advance s) = .fault k)

/-- R60: a step of one instance leaves every other as it was. -/
def Obligations.InstancesShareNothing : Prop :=
  ∀ (devices : List State) (k j : Nat), j ≠ k → (advanceInstance devices k)[j]? = devices[j]?

/-- 41_command_protocol.md R87: from every state that meets the invariant, with a valid command accepted and a host
that only reads, the command reaches Completed in finitely many steps (D23, log 7). -/
def Obligations.AcceptedCommandsComplete : Prop :=
  ∀ s : State, s.Inv → s.busy = true → s.pendingValid → s.onlyReads →
    ∃ (n : Nat) (t : State), core.run n s = .next t ∧ t.phase = .completed

/-- 42_commands.md R102, R101 with 41_command_protocol.md R88, R89: an `increment` call of a machine at rest, with no
stale status, ends with the success pair and the counter increased by the addend, or with a transport failure, the poll
limit's among them if there is one (weak fairness D23, log 7; valid commands succeed D33, log 18; stale status D11, log
4). -/
def Obligations.IncrementCallCountsOrFails : Prop :=
  ∀ (s : State) (i a : Nat) (hi : i < 2), s.Inv → s.phase = .idle ∨ s.phase = .completed →
    s.task = .idle → s.calls = [.increment i a] → 1 ≤ a → a ≤ 255 → s.staleStatusWindow = false →
    ∃ (n : Nat) (t : State), core.run n s = .next t ∧ t.task = .idle ∧
      ((t.returned = s.returned ++ [.status 0xC3 0x00] ∧ t.ctr = s.ctr.set i (s.ctr[i] + BitVec.ofNat 32 a) ∧
          t.pcr = s.pcr) ∨
        ∃ call, (call = .pollLimit → s.pollLimit ≠ none) ∧
          t.returned = s.returned ++ [.error (.transportFailure call)])

/-- 30_encoding.md R71 (its decision D15, log 33): what each wrapper's call expands to, in opcode, arguments, payload,
response length and framing. INCREMENT alone is unchecked. -/
def Obligations.WrappersExpandAsTheTableSays : Prop :=
  hostPlan .nop = .frame ⟨0x00, 0, 0, 0, [], 0, .checked⟩ ∧
  (∀ (i : Fin 3) (d : List Byte), d.length ≤ 80 →
    ∃ i' n : Byte, i'.toNat = i.val ∧ n.toNat = d.length ∧
      hostPlan (.extend i.val d) = .frame ⟨0xE0, i', n, 0, d, 0, .checked⟩) ∧
  (∀ (m : Fin 256) (c : List Byte), c.length ≤ 80 →
    ∃ m' n : Byte, m'.toNat = m.val ∧ n.toNat = c.length ∧
      hostPlan (.quote m.val c) = .frame ⟨0xA0, m', n, 0, c, 32, .checked⟩) ∧
  (∀ (i : Fin 2) (a : Nat), 1 ≤ a → a ≤ 255 →
    ∃ i' a' : Byte, i'.toNat = i.val ∧ a'.toNat = a ∧
      hostPlan (.increment i.val a) = .frame ⟨0xC0, i', a', 0, [], 0, .pair⟩) ∧
  (∀ d : List Byte, d.length ≤ 80 →
    ∃ n : Byte, n.toNat = d.length ∧ hostPlan (.hkdf d) = .frame ⟨0xB0, n, 0, 0, d, 32, .checked⟩)

/-- 41_command_protocol.md R88 steps 2 and 5 (log 8): from a device that is not busy, the payload writes of `execute`
end with the payload at the start of the buffer and the trigger write next, and its response reads end with what the
framing makes of the buffer's first bytes; or either ends with a transport failure. Nothing else changes. -/
def Obligations.ExecuteMovesPayloadAndResponse : Prop :=
  (∀ (s : State) (data : List Byte) (x : Execute), s.fault = none → s.phase = .idle ∨ s.phase = .completed →
    s.task = .payload 0 data x → data ≠ [] → data.length ≤ 80 →
    ∃ (n : Nat) (t : State), core.run n s = .next t ∧
      t = { s with task := t.task, returned := t.returned, buf := t.buf, draws := t.draws, link := t.link } ∧
      ((t.task = .trigger x ∧ t.returned = s.returned ∧ t.buf = overlay s.buf 0 data) ∨
        (t.task = .idle ∧ (∃ call, t.returned = s.returned ++ [.error (.transportFailure call)]) ∧
          ∀ k : Fin 80, t.buf[k] = s.buf[k] ∨ ∃ h : k.val < data.length, t.buf[k] = data[k.val]))) ∧
  (∀ (s : State) (s0 s1 : Byte) (x : Execute), s.fault = none → s.phase = .idle ∨ s.phase = .completed →
    s.task = .response s0 s1 [] x → 1 ≤ x.responseLength → x.responseLength ≤ 80 →
    ∃ (n : Nat) (t : State), core.run n s = .next t ∧
      t = { s with task := .idle, returned := t.returned, draws := t.draws, link := t.link } ∧
      (t.returned = s.returned ++ [frameResult x s0 s1 (s.buf.toList.take x.responseLength)] ∨
        ∃ call, t.returned = s.returned ++ [.error (.transportFailure call)]))

/-- 41_command_protocol.md R83, R85, R88, R89: a framed call of a machine at rest, with a valid trigger and no stale
status, ends with a transport failure, the poll limit's among them, or with what the framing makes of the success pair
and of the response. Then its command has run once, on the state of the call's start with the payload latched, and what
it wrote is what stands (weak fairness D23, log 7; valid commands succeed D33, log 18; stale status D11, log 4). -/
def Obligations.FramedCallRunsItsCommandOrFails : Prop :=
  ∀ (s : State) (c : HostCall) (x : Execute) (i : Instr), s.Inv → s.phase = .idle ∨ s.phase = .completed →
    s.task = .idle → s.calls = [c] → argumentError c = none → hostPlan c = .frame x →
    x.payload.length ≤ 80 → x.responseLength ≤ 80 →
    decode ⟨x.arg0, x.arg1, x.arg2, x.opcode⟩ = .ok i → i.wellFormed = true → s.staleStatusWindow = false →
    ∃ (n : Nat) (t : State), core.run n s = .next t ∧ t.task = .idle ∧
      ((∃ (data : List Byte) (u v : State), u.lcmd = some ⟨⟨x.arg0, x.arg1, x.arg2, x.opcode⟩, data⟩ ∧
          data = (overlay s.buf 0 x.payload).toList.take (payloadLength i) ∧
          (x.payload.length = payloadLength i → data = x.payload) ∧
          u.pcr = s.pcr ∧ u.ctr = s.ctr ∧ u.vbits = s.vbits ∧ u.vlocks = s.vlocks ∧ u.user = s.user ∧ u.uid = s.uid ∧
          u.rootKey = s.rootKey ∧ u.kQuot = s.kQuot ∧ u.kHkdf = s.kHkdf ∧
          exec i u = .next v ∧ t.buf = v.buf ∧ t.pcr = v.pcr ∧ t.ctr = v.ctr ∧ (t.st0, t.st1) = (0xC3, 0x00) ∧
          t.phase = .completed ∧
          t.returned = s.returned ++ [frameResult x 0xC3 0x00 (v.buf.toList.take x.responseLength)]) ∨
        ∃ call, (call = .pollLimit → s.pollLimit ≠ none) ∧
          t.returned = s.returned ++ [.error (.transportFailure call)])
end

