-- ==== Sys2Proof/Laws/State.lean ====
section
/-!
SUPPORT. What each named update does to each field of State: one lemma per field per update, so that no proof unfolds a
record update.
-/

namespace Sys2Proof.Machine

open Sys2Proof

section

variable (s : State) (n : Nat)

@[simp] theorem State.spend_buf : (s.spend n).buf = s.buf := rfl
@[simp] theorem State.spend_trig : (s.spend n).trig = s.trig := rfl
@[simp] theorem State.spend_st0 : (s.spend n).st0 = s.st0 := rfl
@[simp] theorem State.spend_st1 : (s.spend n).st1 = s.st1 := rfl
@[simp] theorem State.spend_vbits : (s.spend n).vbits = s.vbits := rfl
@[simp] theorem State.spend_vlocks : (s.spend n).vlocks = s.vlocks := rfl
@[simp] theorem State.spend_ctr : (s.spend n).ctr = s.ctr := rfl
@[simp] theorem State.spend_user : (s.spend n).user = s.user := rfl
@[simp] theorem State.spend_pcr : (s.spend n).pcr = s.pcr := rfl
@[simp] theorem State.spend_uid : (s.spend n).uid = s.uid := rfl
@[simp] theorem State.spend_rootKey : (s.spend n).rootKey = s.rootKey := rfl
@[simp] theorem State.spend_kQuot : (s.spend n).kQuot = s.kQuot := rfl
@[simp] theorem State.spend_kHkdf : (s.spend n).kHkdf = s.kHkdf := rfl
@[simp] theorem State.spend_phase : (s.spend n).phase = s.phase := rfl
@[simp] theorem State.spend_lcmd : (s.spend n).lcmd = s.lcmd := rfl
@[simp] theorem State.spend_fault : (s.spend n).fault = s.fault := rfl
@[simp] theorem State.spend_pollLimit : (s.spend n).pollLimit = s.pollLimit := rfl
@[simp] theorem State.spend_staleStatusWindow : (s.spend n).staleStatusWindow = s.staleStatusWindow := rfl
@[simp] theorem State.spend_calls : (s.spend n).calls = s.calls := rfl
@[simp] theorem State.spend_task : (s.spend n).task = s.task := rfl
@[simp] theorem State.spend_returned : (s.spend n).returned = s.returned := rfl
@[simp] theorem State.spend_unit : (s.spend n).unit = s.unit := rfl
@[simp] theorem State.spend_draws : (s.spend n).draws = s.draws + n := rfl
@[simp] theorem State.spend_deviceDelay : (s.spend n).deviceDelay = s.deviceDelay := rfl
@[simp] theorem State.spend_link : (s.spend n).link = s.link := rfl

end

section

variable (s : State)

@[simp] theorem State.relink_buf : (s.relink).buf = s.buf := rfl
@[simp] theorem State.relink_trig : (s.relink).trig = s.trig := rfl
@[simp] theorem State.relink_st0 : (s.relink).st0 = s.st0 := rfl
@[simp] theorem State.relink_st1 : (s.relink).st1 = s.st1 := rfl
@[simp] theorem State.relink_vbits : (s.relink).vbits = s.vbits := rfl
@[simp] theorem State.relink_vlocks : (s.relink).vlocks = s.vlocks := rfl
@[simp] theorem State.relink_ctr : (s.relink).ctr = s.ctr := rfl
@[simp] theorem State.relink_user : (s.relink).user = s.user := rfl
@[simp] theorem State.relink_pcr : (s.relink).pcr = s.pcr := rfl
@[simp] theorem State.relink_uid : (s.relink).uid = s.uid := rfl
@[simp] theorem State.relink_rootKey : (s.relink).rootKey = s.rootKey := rfl
@[simp] theorem State.relink_kQuot : (s.relink).kQuot = s.kQuot := rfl
@[simp] theorem State.relink_kHkdf : (s.relink).kHkdf = s.kHkdf := rfl
@[simp] theorem State.relink_phase : (s.relink).phase = s.phase := rfl
@[simp] theorem State.relink_lcmd : (s.relink).lcmd = s.lcmd := rfl
@[simp] theorem State.relink_fault : (s.relink).fault = s.fault := rfl
@[simp] theorem State.relink_pollLimit : (s.relink).pollLimit = s.pollLimit := rfl
@[simp] theorem State.relink_staleStatusWindow : (s.relink).staleStatusWindow = s.staleStatusWindow := rfl
@[simp] theorem State.relink_calls : (s.relink).calls = s.calls := rfl
@[simp] theorem State.relink_task : (s.relink).task = s.task := rfl
@[simp] theorem State.relink_returned : (s.relink).returned = s.returned := rfl
@[simp] theorem State.relink_unit : (s.relink).unit = s.unit := rfl
@[simp] theorem State.relink_draws : (s.relink).draws = s.draws + 1 := rfl
@[simp] theorem State.relink_deviceDelay : (s.relink).deviceDelay = s.deviceDelay := rfl
@[simp] theorem State.relink_link : (s.relink).link = Config.freeLink s.unit s.draws := rfl

end

section

variable (s : State) (b : Bytes 80)

@[simp] theorem State.withBuf_buf : (s.withBuf b).buf = b := rfl
@[simp] theorem State.withBuf_trig : (s.withBuf b).trig = s.trig := rfl
@[simp] theorem State.withBuf_st0 : (s.withBuf b).st0 = s.st0 := rfl
@[simp] theorem State.withBuf_st1 : (s.withBuf b).st1 = s.st1 := rfl
@[simp] theorem State.withBuf_vbits : (s.withBuf b).vbits = s.vbits := rfl
@[simp] theorem State.withBuf_vlocks : (s.withBuf b).vlocks = s.vlocks := rfl
@[simp] theorem State.withBuf_ctr : (s.withBuf b).ctr = s.ctr := rfl
@[simp] theorem State.withBuf_user : (s.withBuf b).user = s.user := rfl
@[simp] theorem State.withBuf_pcr : (s.withBuf b).pcr = s.pcr := rfl
@[simp] theorem State.withBuf_uid : (s.withBuf b).uid = s.uid := rfl
@[simp] theorem State.withBuf_rootKey : (s.withBuf b).rootKey = s.rootKey := rfl
@[simp] theorem State.withBuf_kQuot : (s.withBuf b).kQuot = s.kQuot := rfl
@[simp] theorem State.withBuf_kHkdf : (s.withBuf b).kHkdf = s.kHkdf := rfl
@[simp] theorem State.withBuf_phase : (s.withBuf b).phase = s.phase := rfl
@[simp] theorem State.withBuf_lcmd : (s.withBuf b).lcmd = s.lcmd := rfl
@[simp] theorem State.withBuf_fault : (s.withBuf b).fault = s.fault := rfl
@[simp] theorem State.withBuf_pollLimit : (s.withBuf b).pollLimit = s.pollLimit := rfl
@[simp] theorem State.withBuf_staleStatusWindow : (s.withBuf b).staleStatusWindow = s.staleStatusWindow := rfl
@[simp] theorem State.withBuf_calls : (s.withBuf b).calls = s.calls := rfl
@[simp] theorem State.withBuf_task : (s.withBuf b).task = s.task := rfl
@[simp] theorem State.withBuf_returned : (s.withBuf b).returned = s.returned := rfl
@[simp] theorem State.withBuf_unit : (s.withBuf b).unit = s.unit := rfl
@[simp] theorem State.withBuf_draws : (s.withBuf b).draws = s.draws := rfl
@[simp] theorem State.withBuf_deviceDelay : (s.withBuf b).deviceDelay = s.deviceDelay := rfl
@[simp] theorem State.withBuf_link : (s.withBuf b).link = s.link := rfl

end

section

variable (s : State) (t : Trigger)

@[simp] theorem State.withTrig_buf : (s.withTrig t).buf = s.buf := rfl
@[simp] theorem State.withTrig_trig : (s.withTrig t).trig = t := rfl
@[simp] theorem State.withTrig_st0 : (s.withTrig t).st0 = s.st0 := rfl
@[simp] theorem State.withTrig_st1 : (s.withTrig t).st1 = s.st1 := rfl
@[simp] theorem State.withTrig_vbits : (s.withTrig t).vbits = s.vbits := rfl
@[simp] theorem State.withTrig_vlocks : (s.withTrig t).vlocks = s.vlocks := rfl
@[simp] theorem State.withTrig_ctr : (s.withTrig t).ctr = s.ctr := rfl
@[simp] theorem State.withTrig_user : (s.withTrig t).user = s.user := rfl
@[simp] theorem State.withTrig_pcr : (s.withTrig t).pcr = s.pcr := rfl
@[simp] theorem State.withTrig_uid : (s.withTrig t).uid = s.uid := rfl
@[simp] theorem State.withTrig_rootKey : (s.withTrig t).rootKey = s.rootKey := rfl
@[simp] theorem State.withTrig_kQuot : (s.withTrig t).kQuot = s.kQuot := rfl
@[simp] theorem State.withTrig_kHkdf : (s.withTrig t).kHkdf = s.kHkdf := rfl
@[simp] theorem State.withTrig_phase : (s.withTrig t).phase = s.phase := rfl
@[simp] theorem State.withTrig_lcmd : (s.withTrig t).lcmd = s.lcmd := rfl
@[simp] theorem State.withTrig_fault : (s.withTrig t).fault = s.fault := rfl
@[simp] theorem State.withTrig_pollLimit : (s.withTrig t).pollLimit = s.pollLimit := rfl
@[simp] theorem State.withTrig_staleStatusWindow : (s.withTrig t).staleStatusWindow = s.staleStatusWindow := rfl
@[simp] theorem State.withTrig_calls : (s.withTrig t).calls = s.calls := rfl
@[simp] theorem State.withTrig_task : (s.withTrig t).task = s.task := rfl
@[simp] theorem State.withTrig_returned : (s.withTrig t).returned = s.returned := rfl
@[simp] theorem State.withTrig_unit : (s.withTrig t).unit = s.unit := rfl
@[simp] theorem State.withTrig_draws : (s.withTrig t).draws = s.draws := rfl
@[simp] theorem State.withTrig_deviceDelay : (s.withTrig t).deviceDelay = s.deviceDelay := rfl
@[simp] theorem State.withTrig_link : (s.withTrig t).link = s.link := rfl

end

section

variable (s : State) (i : Fin 3) (v : Bytes 32)

@[simp] theorem State.withPcr_buf : (s.withPcr i v).buf = s.buf := rfl
@[simp] theorem State.withPcr_trig : (s.withPcr i v).trig = s.trig := rfl
@[simp] theorem State.withPcr_st0 : (s.withPcr i v).st0 = s.st0 := rfl
@[simp] theorem State.withPcr_st1 : (s.withPcr i v).st1 = s.st1 := rfl
@[simp] theorem State.withPcr_vbits : (s.withPcr i v).vbits = s.vbits := rfl
@[simp] theorem State.withPcr_vlocks : (s.withPcr i v).vlocks = s.vlocks := rfl
@[simp] theorem State.withPcr_ctr : (s.withPcr i v).ctr = s.ctr := rfl
@[simp] theorem State.withPcr_user : (s.withPcr i v).user = s.user := rfl
@[simp] theorem State.withPcr_pcr : (s.withPcr i v).pcr = s.pcr.set i v := rfl
@[simp] theorem State.withPcr_uid : (s.withPcr i v).uid = s.uid := rfl
@[simp] theorem State.withPcr_rootKey : (s.withPcr i v).rootKey = s.rootKey := rfl
@[simp] theorem State.withPcr_kQuot : (s.withPcr i v).kQuot = s.kQuot := rfl
@[simp] theorem State.withPcr_kHkdf : (s.withPcr i v).kHkdf = s.kHkdf := rfl
@[simp] theorem State.withPcr_phase : (s.withPcr i v).phase = s.phase := rfl
@[simp] theorem State.withPcr_lcmd : (s.withPcr i v).lcmd = s.lcmd := rfl
@[simp] theorem State.withPcr_fault : (s.withPcr i v).fault = s.fault := rfl
@[simp] theorem State.withPcr_pollLimit : (s.withPcr i v).pollLimit = s.pollLimit := rfl
@[simp] theorem State.withPcr_staleStatusWindow : (s.withPcr i v).staleStatusWindow = s.staleStatusWindow := rfl
@[simp] theorem State.withPcr_calls : (s.withPcr i v).calls = s.calls := rfl
@[simp] theorem State.withPcr_task : (s.withPcr i v).task = s.task := rfl
@[simp] theorem State.withPcr_returned : (s.withPcr i v).returned = s.returned := rfl
@[simp] theorem State.withPcr_unit : (s.withPcr i v).unit = s.unit := rfl
@[simp] theorem State.withPcr_draws : (s.withPcr i v).draws = s.draws := rfl
@[simp] theorem State.withPcr_deviceDelay : (s.withPcr i v).deviceDelay = s.deviceDelay := rfl
@[simp] theorem State.withPcr_link : (s.withPcr i v).link = s.link := rfl

end

section

variable (s : State) (i : Fin 2) (v : Word)

@[simp] theorem State.withCtr_buf : (s.withCtr i v).buf = s.buf := rfl
@[simp] theorem State.withCtr_trig : (s.withCtr i v).trig = s.trig := rfl
@[simp] theorem State.withCtr_st0 : (s.withCtr i v).st0 = s.st0 := rfl
@[simp] theorem State.withCtr_st1 : (s.withCtr i v).st1 = s.st1 := rfl
@[simp] theorem State.withCtr_vbits : (s.withCtr i v).vbits = s.vbits := rfl
@[simp] theorem State.withCtr_vlocks : (s.withCtr i v).vlocks = s.vlocks := rfl
@[simp] theorem State.withCtr_ctr : (s.withCtr i v).ctr = s.ctr.set i v := rfl
@[simp] theorem State.withCtr_user : (s.withCtr i v).user = s.user := rfl
@[simp] theorem State.withCtr_pcr : (s.withCtr i v).pcr = s.pcr := rfl
@[simp] theorem State.withCtr_uid : (s.withCtr i v).uid = s.uid := rfl
@[simp] theorem State.withCtr_rootKey : (s.withCtr i v).rootKey = s.rootKey := rfl
@[simp] theorem State.withCtr_kQuot : (s.withCtr i v).kQuot = s.kQuot := rfl
@[simp] theorem State.withCtr_kHkdf : (s.withCtr i v).kHkdf = s.kHkdf := rfl
@[simp] theorem State.withCtr_phase : (s.withCtr i v).phase = s.phase := rfl
@[simp] theorem State.withCtr_lcmd : (s.withCtr i v).lcmd = s.lcmd := rfl
@[simp] theorem State.withCtr_fault : (s.withCtr i v).fault = s.fault := rfl
@[simp] theorem State.withCtr_pollLimit : (s.withCtr i v).pollLimit = s.pollLimit := rfl
@[simp] theorem State.withCtr_staleStatusWindow : (s.withCtr i v).staleStatusWindow = s.staleStatusWindow := rfl
@[simp] theorem State.withCtr_calls : (s.withCtr i v).calls = s.calls := rfl
@[simp] theorem State.withCtr_task : (s.withCtr i v).task = s.task := rfl
@[simp] theorem State.withCtr_returned : (s.withCtr i v).returned = s.returned := rfl
@[simp] theorem State.withCtr_unit : (s.withCtr i v).unit = s.unit := rfl
@[simp] theorem State.withCtr_draws : (s.withCtr i v).draws = s.draws := rfl
@[simp] theorem State.withCtr_deviceDelay : (s.withCtr i v).deviceDelay = s.deviceDelay := rfl
@[simp] theorem State.withCtr_link : (s.withCtr i v).link = s.link := rfl

end

section

variable (s : State) (k : Fault)

@[simp] theorem State.recordFault_buf : (s.recordFault k).buf = s.buf := rfl
@[simp] theorem State.recordFault_trig : (s.recordFault k).trig = s.trig := rfl
@[simp] theorem State.recordFault_st0 : (s.recordFault k).st0 = s.st0 := rfl
@[simp] theorem State.recordFault_st1 : (s.recordFault k).st1 = s.st1 := rfl
@[simp] theorem State.recordFault_vbits : (s.recordFault k).vbits = s.vbits := rfl
@[simp] theorem State.recordFault_vlocks : (s.recordFault k).vlocks = s.vlocks := rfl
@[simp] theorem State.recordFault_ctr : (s.recordFault k).ctr = s.ctr := rfl
@[simp] theorem State.recordFault_user : (s.recordFault k).user = s.user := rfl
@[simp] theorem State.recordFault_pcr : (s.recordFault k).pcr = s.pcr := rfl
@[simp] theorem State.recordFault_uid : (s.recordFault k).uid = s.uid := rfl
@[simp] theorem State.recordFault_rootKey : (s.recordFault k).rootKey = s.rootKey := rfl
@[simp] theorem State.recordFault_kQuot : (s.recordFault k).kQuot = s.kQuot := rfl
@[simp] theorem State.recordFault_kHkdf : (s.recordFault k).kHkdf = s.kHkdf := rfl
@[simp] theorem State.recordFault_phase : (s.recordFault k).phase = s.phase := rfl
@[simp] theorem State.recordFault_lcmd : (s.recordFault k).lcmd = s.lcmd := rfl
@[simp] theorem State.recordFault_fault : (s.recordFault k).fault = some k := rfl
@[simp] theorem State.recordFault_pollLimit : (s.recordFault k).pollLimit = s.pollLimit := rfl
@[simp] theorem State.recordFault_staleStatusWindow : (s.recordFault k).staleStatusWindow = s.staleStatusWindow := rfl
@[simp] theorem State.recordFault_calls : (s.recordFault k).calls = s.calls := rfl
@[simp] theorem State.recordFault_task : (s.recordFault k).task = s.task := rfl
@[simp] theorem State.recordFault_returned : (s.recordFault k).returned = s.returned := rfl
@[simp] theorem State.recordFault_unit : (s.recordFault k).unit = s.unit := rfl
@[simp] theorem State.recordFault_draws : (s.recordFault k).draws = s.draws := rfl
@[simp] theorem State.recordFault_deviceDelay : (s.recordFault k).deviceDelay = s.deviceDelay := rfl
@[simp] theorem State.recordFault_link : (s.recordFault k).link = s.link := rfl

end

section

variable (s : State) (k : HostTask)

@[simp] theorem State.withTask_buf : (s.withTask k).buf = s.buf := rfl
@[simp] theorem State.withTask_trig : (s.withTask k).trig = s.trig := rfl
@[simp] theorem State.withTask_st0 : (s.withTask k).st0 = s.st0 := rfl
@[simp] theorem State.withTask_st1 : (s.withTask k).st1 = s.st1 := rfl
@[simp] theorem State.withTask_vbits : (s.withTask k).vbits = s.vbits := rfl
@[simp] theorem State.withTask_vlocks : (s.withTask k).vlocks = s.vlocks := rfl
@[simp] theorem State.withTask_ctr : (s.withTask k).ctr = s.ctr := rfl
@[simp] theorem State.withTask_user : (s.withTask k).user = s.user := rfl
@[simp] theorem State.withTask_pcr : (s.withTask k).pcr = s.pcr := rfl
@[simp] theorem State.withTask_uid : (s.withTask k).uid = s.uid := rfl
@[simp] theorem State.withTask_rootKey : (s.withTask k).rootKey = s.rootKey := rfl
@[simp] theorem State.withTask_kQuot : (s.withTask k).kQuot = s.kQuot := rfl
@[simp] theorem State.withTask_kHkdf : (s.withTask k).kHkdf = s.kHkdf := rfl
@[simp] theorem State.withTask_phase : (s.withTask k).phase = s.phase := rfl
@[simp] theorem State.withTask_lcmd : (s.withTask k).lcmd = s.lcmd := rfl
@[simp] theorem State.withTask_fault : (s.withTask k).fault = s.fault := rfl
@[simp] theorem State.withTask_pollLimit : (s.withTask k).pollLimit = s.pollLimit := rfl
@[simp] theorem State.withTask_staleStatusWindow : (s.withTask k).staleStatusWindow = s.staleStatusWindow := rfl
@[simp] theorem State.withTask_calls : (s.withTask k).calls = s.calls := rfl
@[simp] theorem State.withTask_task : (s.withTask k).task = k := rfl
@[simp] theorem State.withTask_returned : (s.withTask k).returned = s.returned := rfl
@[simp] theorem State.withTask_unit : (s.withTask k).unit = s.unit := rfl
@[simp] theorem State.withTask_draws : (s.withTask k).draws = s.draws := rfl
@[simp] theorem State.withTask_deviceDelay : (s.withTask k).deviceDelay = s.deviceDelay := rfl
@[simp] theorem State.withTask_link : (s.withTask k).link = s.link := rfl

end

section

variable (s : State) (r : HostReturn)

@[simp] theorem State.finish_buf : (s.finish r).buf = s.buf := rfl
@[simp] theorem State.finish_trig : (s.finish r).trig = s.trig := rfl
@[simp] theorem State.finish_st0 : (s.finish r).st0 = s.st0 := rfl
@[simp] theorem State.finish_st1 : (s.finish r).st1 = s.st1 := rfl
@[simp] theorem State.finish_vbits : (s.finish r).vbits = s.vbits := rfl
@[simp] theorem State.finish_vlocks : (s.finish r).vlocks = s.vlocks := rfl
@[simp] theorem State.finish_ctr : (s.finish r).ctr = s.ctr := rfl
@[simp] theorem State.finish_user : (s.finish r).user = s.user := rfl
@[simp] theorem State.finish_pcr : (s.finish r).pcr = s.pcr := rfl
@[simp] theorem State.finish_uid : (s.finish r).uid = s.uid := rfl
@[simp] theorem State.finish_rootKey : (s.finish r).rootKey = s.rootKey := rfl
@[simp] theorem State.finish_kQuot : (s.finish r).kQuot = s.kQuot := rfl
@[simp] theorem State.finish_kHkdf : (s.finish r).kHkdf = s.kHkdf := rfl
@[simp] theorem State.finish_phase : (s.finish r).phase = s.phase := rfl
@[simp] theorem State.finish_lcmd : (s.finish r).lcmd = s.lcmd := rfl
@[simp] theorem State.finish_fault : (s.finish r).fault = s.fault := rfl
@[simp] theorem State.finish_pollLimit : (s.finish r).pollLimit = s.pollLimit := rfl
@[simp] theorem State.finish_staleStatusWindow : (s.finish r).staleStatusWindow = s.staleStatusWindow := rfl
@[simp] theorem State.finish_calls : (s.finish r).calls = s.calls := rfl
@[simp] theorem State.finish_task : (s.finish r).task = .idle := rfl
@[simp] theorem State.finish_returned : (s.finish r).returned = s.returned ++ [r] := rfl
@[simp] theorem State.finish_unit : (s.finish r).unit = s.unit := rfl
@[simp] theorem State.finish_draws : (s.finish r).draws = s.draws := rfl
@[simp] theorem State.finish_deviceDelay : (s.finish r).deviceDelay = s.deviceDelay := rfl
@[simp] theorem State.finish_link : (s.finish r).link = s.link := rfl

end

section

variable (s : State) (cs : List HostCall)

@[simp] theorem State.withCalls_buf : (s.withCalls cs).buf = s.buf := rfl
@[simp] theorem State.withCalls_trig : (s.withCalls cs).trig = s.trig := rfl
@[simp] theorem State.withCalls_st0 : (s.withCalls cs).st0 = s.st0 := rfl
@[simp] theorem State.withCalls_st1 : (s.withCalls cs).st1 = s.st1 := rfl
@[simp] theorem State.withCalls_vbits : (s.withCalls cs).vbits = s.vbits := rfl
@[simp] theorem State.withCalls_vlocks : (s.withCalls cs).vlocks = s.vlocks := rfl
@[simp] theorem State.withCalls_ctr : (s.withCalls cs).ctr = s.ctr := rfl
@[simp] theorem State.withCalls_user : (s.withCalls cs).user = s.user := rfl
@[simp] theorem State.withCalls_pcr : (s.withCalls cs).pcr = s.pcr := rfl
@[simp] theorem State.withCalls_uid : (s.withCalls cs).uid = s.uid := rfl
@[simp] theorem State.withCalls_rootKey : (s.withCalls cs).rootKey = s.rootKey := rfl
@[simp] theorem State.withCalls_kQuot : (s.withCalls cs).kQuot = s.kQuot := rfl
@[simp] theorem State.withCalls_kHkdf : (s.withCalls cs).kHkdf = s.kHkdf := rfl
@[simp] theorem State.withCalls_phase : (s.withCalls cs).phase = s.phase := rfl
@[simp] theorem State.withCalls_lcmd : (s.withCalls cs).lcmd = s.lcmd := rfl
@[simp] theorem State.withCalls_fault : (s.withCalls cs).fault = s.fault := rfl
@[simp] theorem State.withCalls_pollLimit : (s.withCalls cs).pollLimit = s.pollLimit := rfl
@[simp] theorem State.withCalls_staleStatusWindow : (s.withCalls cs).staleStatusWindow = s.staleStatusWindow := rfl
@[simp] theorem State.withCalls_calls : (s.withCalls cs).calls = cs := rfl
@[simp] theorem State.withCalls_task : (s.withCalls cs).task = s.task := rfl
@[simp] theorem State.withCalls_returned : (s.withCalls cs).returned = s.returned := rfl
@[simp] theorem State.withCalls_unit : (s.withCalls cs).unit = s.unit := rfl
@[simp] theorem State.withCalls_draws : (s.withCalls cs).draws = s.draws := rfl
@[simp] theorem State.withCalls_deviceDelay : (s.withCalls cs).deviceDelay = s.deviceDelay := rfl
@[simp] theorem State.withCalls_link : (s.withCalls cs).link = s.link := rfl

end

section

variable (s : State) (t : Trigger)

@[simp] theorem acceptTrigger_buf : (acceptTrigger s t).buf = s.buf := rfl
@[simp] theorem acceptTrigger_trig : (acceptTrigger s t).trig = t := rfl
@[simp] theorem acceptTrigger_st0 : (acceptTrigger s t).st0 = if s.staleStatusWindow then s.st0 else busyStatus := rfl
@[simp] theorem acceptTrigger_st1 : (acceptTrigger s t).st1 = if s.staleStatusWindow then s.st1 else s.free 0 := rfl
@[simp] theorem acceptTrigger_vbits : (acceptTrigger s t).vbits = s.vbits := rfl
@[simp] theorem acceptTrigger_vlocks : (acceptTrigger s t).vlocks = s.vlocks := rfl
@[simp] theorem acceptTrigger_ctr : (acceptTrigger s t).ctr = s.ctr := rfl
@[simp] theorem acceptTrigger_user : (acceptTrigger s t).user = s.user := rfl
@[simp] theorem acceptTrigger_pcr : (acceptTrigger s t).pcr = s.pcr := rfl
@[simp] theorem acceptTrigger_uid : (acceptTrigger s t).uid = s.uid := rfl
@[simp] theorem acceptTrigger_rootKey : (acceptTrigger s t).rootKey = s.rootKey := rfl
@[simp] theorem acceptTrigger_kQuot : (acceptTrigger s t).kQuot = s.kQuot := rfl
@[simp] theorem acceptTrigger_kHkdf : (acceptTrigger s t).kHkdf = s.kHkdf := rfl
@[simp] theorem acceptTrigger_phase : (acceptTrigger s t).phase = .commandPending := rfl
@[simp] theorem acceptTrigger_lcmd : (acceptTrigger s t).lcmd = s.lcmd := rfl
@[simp] theorem acceptTrigger_fault : (acceptTrigger s t).fault = s.fault := rfl
@[simp] theorem acceptTrigger_pollLimit : (acceptTrigger s t).pollLimit = s.pollLimit := rfl
@[simp] theorem acceptTrigger_staleStatusWindow : (acceptTrigger s t).staleStatusWindow = s.staleStatusWindow := rfl
@[simp] theorem acceptTrigger_calls : (acceptTrigger s t).calls = s.calls := rfl
@[simp] theorem acceptTrigger_task : (acceptTrigger s t).task = s.task := rfl
@[simp] theorem acceptTrigger_returned : (acceptTrigger s t).returned = s.returned := rfl
@[simp] theorem acceptTrigger_unit : (acceptTrigger s t).unit = s.unit := rfl
@[simp] theorem acceptTrigger_draws : (acceptTrigger s t).draws = s.draws + 1 := rfl
@[simp] theorem acceptTrigger_deviceDelay : (acceptTrigger s t).deviceDelay = Config.freeDelay s.unit s.draws := rfl
@[simp] theorem acceptTrigger_link : (acceptTrigger s t).link = s.link := rfl

end

section

variable (s : State) (i : Instr)

@[simp] theorem latchCommand_buf : (latchCommand s i).buf = s.buf := rfl
@[simp] theorem latchCommand_trig : (latchCommand s i).trig = s.trig := rfl
@[simp] theorem latchCommand_st0 : (latchCommand s i).st0 = busyStatus := rfl
@[simp] theorem latchCommand_st1 : (latchCommand s i).st1 = s.free 0 := rfl
@[simp] theorem latchCommand_vbits : (latchCommand s i).vbits = s.vbits := rfl
@[simp] theorem latchCommand_vlocks : (latchCommand s i).vlocks = s.vlocks := rfl
@[simp] theorem latchCommand_ctr : (latchCommand s i).ctr = s.ctr := rfl
@[simp] theorem latchCommand_user : (latchCommand s i).user = s.user := rfl
@[simp] theorem latchCommand_pcr : (latchCommand s i).pcr = s.pcr := rfl
@[simp] theorem latchCommand_uid : (latchCommand s i).uid = s.uid := rfl
@[simp] theorem latchCommand_rootKey : (latchCommand s i).rootKey = s.rootKey := rfl
@[simp] theorem latchCommand_kQuot : (latchCommand s i).kQuot = s.kQuot := rfl
@[simp] theorem latchCommand_kHkdf : (latchCommand s i).kHkdf = s.kHkdf := rfl
@[simp] theorem latchCommand_phase : (latchCommand s i).phase = .executing := rfl
@[simp] theorem latchCommand_lcmd : (latchCommand s i).lcmd = some ⟨s.trig, s.buf.toList.take (payloadLength i)⟩ := rfl
@[simp] theorem latchCommand_fault : (latchCommand s i).fault = s.fault := rfl
@[simp] theorem latchCommand_pollLimit : (latchCommand s i).pollLimit = s.pollLimit := rfl
@[simp] theorem latchCommand_staleStatusWindow : (latchCommand s i).staleStatusWindow = s.staleStatusWindow := rfl
@[simp] theorem latchCommand_calls : (latchCommand s i).calls = s.calls := rfl
@[simp] theorem latchCommand_task : (latchCommand s i).task = s.task := rfl
@[simp] theorem latchCommand_returned : (latchCommand s i).returned = s.returned := rfl
@[simp] theorem latchCommand_unit : (latchCommand s i).unit = s.unit := rfl
@[simp] theorem latchCommand_draws : (latchCommand s i).draws = s.draws + 1 := rfl
@[simp] theorem latchCommand_deviceDelay : (latchCommand s i).deviceDelay = Config.freeDelay s.unit s.draws := rfl
@[simp] theorem latchCommand_link : (latchCommand s i).link = s.link := rfl

end

section

variable (s : State) (r : List Byte) (p : Byte × Byte)

@[simp] theorem completeCommand_buf : (completeCommand s r p).buf = completedBuf s r p := rfl
@[simp] theorem completeCommand_trig : (completeCommand s r p).trig = s.trig := rfl
@[simp] theorem completeCommand_st0 : (completeCommand s r p).st0 = p.1 := rfl
@[simp] theorem completeCommand_st1 : (completeCommand s r p).st1 = p.2 := rfl
@[simp] theorem completeCommand_vbits : (completeCommand s r p).vbits = s.vbits := rfl
@[simp] theorem completeCommand_vlocks : (completeCommand s r p).vlocks = s.vlocks := rfl
@[simp] theorem completeCommand_ctr : (completeCommand s r p).ctr = s.ctr := rfl
@[simp] theorem completeCommand_user : (completeCommand s r p).user = s.user := rfl
@[simp] theorem completeCommand_pcr : (completeCommand s r p).pcr = s.pcr := rfl
@[simp] theorem completeCommand_uid : (completeCommand s r p).uid = s.uid := rfl
@[simp] theorem completeCommand_rootKey : (completeCommand s r p).rootKey = s.rootKey := rfl
@[simp] theorem completeCommand_kQuot : (completeCommand s r p).kQuot = s.kQuot := rfl
@[simp] theorem completeCommand_kHkdf : (completeCommand s r p).kHkdf = s.kHkdf := rfl
@[simp] theorem completeCommand_phase : (completeCommand s r p).phase = .completed := rfl
@[simp] theorem completeCommand_lcmd : (completeCommand s r p).lcmd = s.lcmd := rfl
@[simp] theorem completeCommand_fault : (completeCommand s r p).fault = s.fault := rfl
@[simp] theorem completeCommand_pollLimit : (completeCommand s r p).pollLimit = s.pollLimit := rfl
@[simp] theorem completeCommand_staleStatusWindow : (completeCommand s r p).staleStatusWindow = s.staleStatusWindow := rfl
@[simp] theorem completeCommand_calls : (completeCommand s r p).calls = s.calls := rfl
@[simp] theorem completeCommand_task : (completeCommand s r p).task = s.task := rfl
@[simp] theorem completeCommand_returned : (completeCommand s r p).returned = s.returned := rfl
@[simp] theorem completeCommand_unit : (completeCommand s r p).unit = s.unit := rfl
@[simp] theorem completeCommand_draws : (completeCommand s r p).draws = s.draws + 80 := rfl
@[simp] theorem completeCommand_deviceDelay : (completeCommand s r p).deviceDelay = s.deviceDelay := rfl
@[simp] theorem completeCommand_link : (completeCommand s r p).link = s.link := rfl

end

section

variable (s : State) (t : Trigger)

@[simp] theorem State.withLatched_buf : (s.withLatched t).buf = s.buf := rfl
@[simp] theorem State.withLatched_trig : (s.withLatched t).trig = t := rfl
@[simp] theorem State.withLatched_st0 : (s.withLatched t).st0 = s.st0 := rfl
@[simp] theorem State.withLatched_st1 : (s.withLatched t).st1 = s.st1 := rfl
@[simp] theorem State.withLatched_vbits : (s.withLatched t).vbits = s.vbits := rfl
@[simp] theorem State.withLatched_vlocks : (s.withLatched t).vlocks = s.vlocks := rfl
@[simp] theorem State.withLatched_ctr : (s.withLatched t).ctr = s.ctr := rfl
@[simp] theorem State.withLatched_user : (s.withLatched t).user = s.user := rfl
@[simp] theorem State.withLatched_pcr : (s.withLatched t).pcr = s.pcr := rfl
@[simp] theorem State.withLatched_uid : (s.withLatched t).uid = s.uid := rfl
@[simp] theorem State.withLatched_rootKey : (s.withLatched t).rootKey = s.rootKey := rfl
@[simp] theorem State.withLatched_kQuot : (s.withLatched t).kQuot = s.kQuot := rfl
@[simp] theorem State.withLatched_kHkdf : (s.withLatched t).kHkdf = s.kHkdf := rfl
@[simp] theorem State.withLatched_phase : (s.withLatched t).phase = .executing := rfl
@[simp] theorem State.withLatched_lcmd : (s.withLatched t).lcmd = some (latchedFor s t) := rfl
@[simp] theorem State.withLatched_fault : (s.withLatched t).fault = none := rfl
@[simp] theorem State.withLatched_pollLimit : (s.withLatched t).pollLimit = s.pollLimit := rfl
@[simp] theorem State.withLatched_staleStatusWindow : (s.withLatched t).staleStatusWindow = s.staleStatusWindow := rfl
@[simp] theorem State.withLatched_calls : (s.withLatched t).calls = s.calls := rfl
@[simp] theorem State.withLatched_task : (s.withLatched t).task = s.task := rfl
@[simp] theorem State.withLatched_returned : (s.withLatched t).returned = s.returned := rfl
@[simp] theorem State.withLatched_unit : (s.withLatched t).unit = s.unit := rfl
@[simp] theorem State.withLatched_draws : (s.withLatched t).draws = s.draws := rfl
@[simp] theorem State.withLatched_deviceDelay : (s.withLatched t).deviceDelay = 0 := rfl
@[simp] theorem State.withLatched_link : (s.withLatched t).link = s.link := rfl

end

section

variable (s : State)

@[simp] theorem State.tick_buf : s.tick.buf = s.buf := rfl
@[simp] theorem State.tick_trig : s.tick.trig = s.trig := rfl
@[simp] theorem State.tick_st0 : s.tick.st0 = s.st0 := rfl
@[simp] theorem State.tick_st1 : s.tick.st1 = s.st1 := rfl
@[simp] theorem State.tick_vbits : s.tick.vbits = s.vbits := rfl
@[simp] theorem State.tick_vlocks : s.tick.vlocks = s.vlocks := rfl
@[simp] theorem State.tick_ctr : s.tick.ctr = s.ctr := rfl
@[simp] theorem State.tick_user : s.tick.user = s.user := rfl
@[simp] theorem State.tick_pcr : s.tick.pcr = s.pcr := rfl
@[simp] theorem State.tick_uid : s.tick.uid = s.uid := rfl
@[simp] theorem State.tick_rootKey : s.tick.rootKey = s.rootKey := rfl
@[simp] theorem State.tick_kQuot : s.tick.kQuot = s.kQuot := rfl
@[simp] theorem State.tick_kHkdf : s.tick.kHkdf = s.kHkdf := rfl
@[simp] theorem State.tick_phase : s.tick.phase = s.phase := rfl
@[simp] theorem State.tick_lcmd : s.tick.lcmd = s.lcmd := rfl
@[simp] theorem State.tick_fault : s.tick.fault = s.fault := rfl
@[simp] theorem State.tick_pollLimit : s.tick.pollLimit = s.pollLimit := rfl
@[simp] theorem State.tick_staleStatusWindow : s.tick.staleStatusWindow = s.staleStatusWindow := rfl
@[simp] theorem State.tick_calls : s.tick.calls = s.calls := rfl
@[simp] theorem State.tick_task : s.tick.task = s.task := rfl
@[simp] theorem State.tick_returned : s.tick.returned = s.returned := rfl
@[simp] theorem State.tick_unit : s.tick.unit = s.unit := rfl
@[simp] theorem State.tick_draws : s.tick.draws = s.draws := rfl
@[simp] theorem State.tick_deviceDelay : s.tick.deviceDelay = if s.busy then s.deviceDelay - 1 else s.deviceDelay := rfl
@[simp] theorem State.tick_link : s.tick.link = s.link := rfl

end

end Sys2Proof.Machine
end

