-- ==== Sys2Proof/Laws/Ops.lean ====
section
/-!
SUPPORT. What each shared operation can do, said once: the window, transfers, transport calls and the device's steps.
-/

namespace Sys2Proof.Machine

open Sys2Proof

/-! ### Busy -/

theorem busy_eq_true_iff (s : State) : s.busy = true ↔ s.phase = .commandPending ∨ s.phase = .executing := by
  unfold State.busy; cases s.phase <;> simp

theorem busy_eq_false_iff (s : State) : s.busy = false ↔ s.phase = .idle ∨ s.phase = .completed := by
  unfold State.busy; cases s.phase <;> simp

/-- Being busy is a matter of the phase alone. -/
theorem busy_congr {s t : State} (h : s.phase = t.phase) : s.busy = t.busy := by
  unfold State.busy; rw [h]

/-! ### Bytes -/

@[simp] theorem le32_length (v : Word) : (le32 v).length = 4 := rfl

/-- `from_le32` is the inverse of `le32` (R10). -/
theorem fromLe32_le32 (v : Word) : fromLe32 (le32 v) = v := by
  apply BitVec.eq_of_toNat_eq
  simp only [fromLe32, le32, List.foldr, BitVec.toNat_ofNat, BitVec.extractLsb'_toNat, Nat.shiftRight_eq_div_pow]
  have := v.isLt
  omega

theorem le32_injective {v w : Word} (h : le32 v = le32 w) : v = w := by
  rw [← fromLe32_le32 v, h, fromLe32_le32]

@[simp] theorem overlay_getElem (b : Bytes 80) (off : Nat) (v : List Byte) (k : Nat) (h : k < 80) :
    (overlay b off v)[k] = if off ≤ k then (v[k - off]?).getD b[k] else b[k] := by
  unfold overlay
  simp only [Vector.getElem_ofFn, Fin.getElem_fin]

@[simp] theorem completedBuf_getElem (s : State) (r : List Byte) (p : Byte × Byte) (k : Nat) (h : k < 80) :
    (completedBuf s r p)[k] = if p = successStatus then (r[k]?).getD (s.free k) else s.free k := by
  unfold completedBuf
  simp only [Vector.getElem_ofFn]

/-- The response stands at the start of the buffer of a command that ended with success (R37, R85). -/
theorem completedBuf_take (s : State) (r : List Byte) (h : r.length ≤ 80) :
    (completedBuf s r successStatus).toList.take r.length = r := by
  apply List.ext_getElem
  · simp [h]
  · intro k h1 h2
    simp [List.getElem_take, List.getElem?_eq_getElem h2]

/-- The buffer of a completed command depends on the state through its draws alone. -/
theorem completedBuf_congr {s t : State} (r : List Byte) (p : Byte × Byte) (hu : s.unit = t.unit)
    (hd : s.draws = t.draws) : completedBuf s r p = completedBuf t r p := by
  apply Vector.ext
  intro k hk
  simp only [completedBuf_getElem, State.free, hu, hd]

/-! ### The window -/

/-- The byte at an offset depends on the window's fields alone. -/
theorem fieldByte_congr {s t : State} (a : Nat) (hb : s.buf = t.buf) (h0 : s.st0 = t.st0) (h1 : s.st1 = t.st1)
    (hv : s.vbits = t.vbits) (hl : s.vlocks = t.vlocks) (hc : s.ctr = t.ctr) (hu : s.user = t.user)
    (hp : s.pcr = t.pcr) (hi : s.uid = t.uid) : s.fieldByte a = t.fieldByte a := by
  simp only [State.fieldByte, hb, h0, h1, hv, hl, hc, hu, hp, hi]

/-- From 0x58 on, the byte at an offset depends on the field that stands there alone. -/
theorem fieldByte_congr_of_le {s t : State} (a : Nat) (ha : 0x58 ≤ a) (hv : s.vbits = t.vbits)
    (hl : s.vlocks = t.vlocks) (hu : s.user = t.user) (hi : s.uid = t.uid)
    (hc0 : 0x60 ≤ a → a < 0x64 → s.ctr[0] = t.ctr[0]) (hc1 : 0x64 ≤ a → a < 0x68 → s.ctr[1] = t.ctr[1])
    (hp0 : 0x90 ≤ a → a < 0xB0 → s.pcr[0] = t.pcr[0]) (hp1 : 0xB0 ≤ a → a < 0xD0 → s.pcr[1] = t.pcr[1])
    (hp2 : 0xD0 ≤ a → a < 0xF0 → s.pcr[2] = t.pcr[2]) : s.fieldByte a = t.fieldByte a := by
  have h1 : ¬ a < 0x50 := by omega
  have h2 : ¬ a < 0x54 := by omega
  have h3 : ¬ a = 0x54 := by omega
  have h4 : ¬ a = 0x55 := by omega
  have h5 : ¬ a < 0x58 := by omega
  simp only [State.fieldByte, h1, h2, h3, h4, h5, if_false, hv, hl, hu, hi]
  by_cases k1 : a < 0x5C
  · simp only [k1, if_true]
  by_cases k2 : a < 0x60
  · simp only [k1, k2, if_true, if_false]
  by_cases k3 : a < 0x64
  · simp only [k1, k2, k3, if_true, if_false, hc0 (by omega) k3]
  by_cases k4 : a < 0x68
  · simp only [k1, k2, k3, k4, if_true, if_false, hc1 (by omega) k4]
  by_cases k5 : a < 0xB0
  · by_cases k6 : a < 0x90
    · simp only [k1, k2, k3, k4, k6, if_true, if_false]
    · simp only [k1, k2, k3, k4, k5, k6, if_true, if_false, hp0 (by omega) k5]
  by_cases k7 : a < 0xD0
  · simp only [k1, k2, k3, k4, k5, k7, if_true, if_false, hp1 (by omega) k7]
  by_cases k8 : a < 0xF0
  · simp only [k1, k2, k3, k4, k5, k7, k8, if_true, if_false, hp2 (by omega) k8]
  · simp only [k1, k2, k3, k4, k5, k7, k8, if_false]

/-- The byte a read finds depends on the phase and the window's fields alone. -/
theorem windowByte_congr {s t : State} (a : Nat) (hph : s.phase = t.phase) (hf : s.fieldByte a = t.fieldByte a) :
    s.windowByte a = t.windowByte a := by
  simp only [State.windowByte, busy_congr hph, hf]

/-- While not busy, the window shows the fields. -/
theorem windowByte_of_not_busy {s : State} (h : s.busy = false) (a : Nat) : s.windowByte a = s.fieldByte a := by
  simp [State.windowByte, h]

/-- Whatever the state, the cells the host can read are in canonical form; no operation can break it. -/
theorem window_wf (s : State) : Memory.wf s.window := by
  constructor
  · refine List.Pairwise.filterMap _ ?_ List.pairwise_lt_range
    intro a b hab x hx y hy
    simp only [Option.map_eq_some_iff] at hx hy
    obtain ⟨_, _, rfl⟩ := hx
    obtain ⟨_, _, rfl⟩ := hy
    exact hab
  · intro c hc
    simp only [State.window, List.mem_filterMap, List.mem_range, Option.map_eq_some_iff] at hc
    obtain ⟨a, ha, _, _, rfl⟩ := hc
    exact ha

/-- The window after initialisation is in canonical form. -/
theorem reset_window_wf : Memory.wf State.reset.window := window_wf _

/-! ### Transfers -/

theorem transferFault_eq_none_iff (off n : Nat) :
    transferFault off n = none ↔ off + n ≤ 0x100 ∧ 1 ≤ n ∧ n ≤ 32 := by
  unfold transferFault
  split
  · simp; omega
  · split
    · simp; omega
    · simp; omega

/-- A write is let through only when the device is not busy, and only into the buffer or onto the whole trigger. -/
theorem writeFault_eq_none_iff (s : State) (off n : Nat) :
    writeFault s off n = none ↔
      s.busy = false ∧ 1 ≤ n ∧ n ≤ 32 ∧ (off + n ≤ 0x50 ∨ off = 0x50 ∧ n = 4) := by
  cases ht : transferFault off n with
  | some k =>
    have : ¬ (off + n ≤ 0x100 ∧ 1 ≤ n ∧ n ≤ 32) := by
      rw [← transferFault_eq_none_iff, ht]; simp
    simp only [writeFault, ht]
    constructor
    · intro h; cases h
    · intro h; omega
  | none =>
    have hb := (transferFault_eq_none_iff off n).1 ht
    simp only [writeFault, ht]
    cases s.busy with
    | true => simp
    | false =>
      simp only [Bool.false_eq_true, if_false]
      split
      · simp; omega
      · split
        · split
          · simp; omega
          · simp; omega
        · simp; omega

/-- All that a read does: the bytes, and the count of draws (R47, R48). -/
theorem memRead_eq_ok_iff (s : State) (off n : Nat) (r : List Byte × State) :
    memRead s off n = .ok r ↔ (off + n ≤ 0x100 ∧ 1 ≤ n ∧ n ≤ 32) ∧ r = (s.readBytes off n, s.spend n) := by
  unfold memRead
  cases ht : transferFault off n with
  | some k =>
    have : ¬ (off + n ≤ 0x100 ∧ 1 ≤ n ∧ n ≤ 32) := by
      rw [← transferFault_eq_none_iff, ht]; simp
    simp [this]
  | none =>
    have hb := (transferFault_eq_none_iff off n).1 ht
    simp [hb, eq_comm]

@[simp] theorem readBytes_length (s : State) (off n : Nat) : (s.readBytes off n).length = n := by
  simp [State.readBytes]

theorem readBytes_getElem? (s : State) (off n k : Nat) (h : k < n) :
    (s.readBytes off n)[k]? = some ((s.windowByte (off + k)).getD (s.free k)) := by
  simp [State.readBytes, h]

/-- All that a write that is let through does: the trigger is accepted, or the bytes land in the buffer (R47). -/
theorem memWrite_cases {s t : State} {off : Nat} {v : List Byte} (h : memWrite s off v = .ok t) :
    s.busy = false ∧
    ((∃ tr : Trigger, off = 0x50 ∧ v = tr.bytes ∧ t = acceptTrigger s tr) ∨
      (off + v.length ≤ 0x50 ∧ 1 ≤ v.length ∧ v.length ≤ 32 ∧ t = s.withBuf (overlay s.buf off v))) := by
  unfold memWrite at h
  cases hw : writeFault s off v.length with
  | some k => rw [hw] at h; cases h
  | none =>
    rw [hw] at h
    obtain ⟨hb, h1, h32, hr⟩ := (writeFault_eq_none_iff s off v.length).1 hw
    refine ⟨hb, ?_⟩
    simp only [Except.ok.injEq] at h
    subst h
    by_cases ho : off = 0x50
    · left
      have hl : v.length = 4 := by omega
      match v, hl with
      | [a0, a1, a2, op], _ => exact ⟨⟨a0, a1, a2, op⟩, ho, rfl, by simp [applyWrite, ho]⟩
    · right
      exact ⟨by omega, h1, h32, by simp [applyWrite, ho]⟩

/-- All that a failed write can leave (R78). -/
theorem failedWrite_cases (s : State) (off : Nat) (v : List Byte) (landed : BitVec 32) (accepted : Bool) :
    (∃ tr, off = 0x50 ∧ (failedWrite s off v landed accepted = acceptTrigger s tr ∨
        failedWrite s off v landed accepted = s.withTrig tr)) ∨
      (off = 0x50 ∧ failedWrite s off v landed accepted = s) ∨
      (off ≠ 0x50 ∧ failedWrite s off v landed accepted = s.withBuf (overlay s.buf off
        (landedChunk landed (fun k => (s.buf[off + k]?).getD 0) v))) := by
  unfold failedWrite
  by_cases ho : off = 0x50
  · rw [if_pos ho]
    split
    · left
      cases accepted
      · exact ⟨_, ho, .inr (by simp; rfl)⟩
      · exact ⟨_, ho, .inl (by simp; rfl)⟩
    · exact .inr (.inl ⟨ho, rfl⟩)
  · rw [if_neg ho]
    exact .inr (.inr ⟨ho, rfl⟩)

/-- All that a transport read can do. -/
theorem transportRead_cases (s : State) (off n : Nat) :
    (∃ k, transportRead s off n = .fault k ∧ ¬ (off + n ≤ 0x100 ∧ 1 ≤ n ∧ n ≤ 32)) ∨
      ((off + n ≤ 0x100 ∧ 1 ≤ n ∧ n ≤ 32) ∧
        (transportRead s off n = .done (s.readBytes off n) (s.spend n).relink ∨
          transportRead s off n = .failed s.relink)) := by
  unfold transportRead
  cases hm : memRead s off n with
  | error k =>
    refine .inl ⟨k, rfl, fun hb => ?_⟩
    have := (memRead_eq_ok_iff s off n _).2 ⟨hb, rfl⟩
    rw [hm] at this; cases this
  | ok r =>
    obtain ⟨hb, rfl⟩ := (memRead_eq_ok_iff s off n r).1 hm
    refine .inr ⟨hb, ?_⟩
    cases s.link with
    | delivered => exact .inl rfl
    | failed l a => exact .inr rfl

/-- All that a transport write can do. -/
theorem transportWrite_cases (s : State) (off : Nat) (v : List Byte) :
    (∃ k, transportWrite s off v = .fault k ∧ memWrite s off v = .error k) ∨
      (∃ t, memWrite s off v = .ok t ∧ transportWrite s off v = .done () t.relink) ∨
      (∃ t l a, memWrite s off v = .ok t ∧
        transportWrite s off v = .failed (failedWrite s off v l a).relink) := by
  unfold transportWrite
  cases memWrite s off v with
  | error k => exact .inl ⟨k, rfl, rfl⟩
  | ok t =>
    cases s.link with
    | delivered => exact .inr (.inl ⟨t, rfl, rfl⟩)
    | failed l a => exact .inr (.inr ⟨t, l, a, rfl, rfl⟩)

/-- A host step that reads ends in a fault of the transfer, in the call's failure, or goes on with the bytes. -/
theorem readThen_cases (s : State) (off n : Nat) (f : State → List Byte → State) :
    (∃ k, readThen s off n f = .fault k ∧ ¬ (off + n ≤ 0x100 ∧ 1 ≤ n ∧ n ≤ 32)) ∨
      ((off + n ≤ 0x100 ∧ 1 ≤ n ∧ n ≤ 32) ∧
        (readThen s off n f = .next (f (s.spend n).relink (s.readBytes off n)) ∨
          readThen s off n f = .next (s.relink.finish (.error (.transportFailure (.read off n)))))) := by
  unfold readThen
  rcases transportRead_cases s off n with ⟨k, h, hn⟩ | ⟨hb, h | h⟩
  · exact .inl ⟨k, by rw [h]; rfl, hn⟩
  · exact .inr ⟨hb, .inl (by rw [h])⟩
  · exact .inr ⟨hb, .inr (by rw [h])⟩

/-- A host step that writes ends in a fault, in the call's failure, or goes on. -/
theorem writeThen_cases (s : State) (off : Nat) (v : List Byte) (f : State → State) :
    (∃ k, writeThen s off v f = .fault k ∧ memWrite s off v = .error k) ∨
      (∃ t, memWrite s off v = .ok t ∧
        (writeThen s off v f = .next (f t.relink) ∨
          ∃ l a, writeThen s off v f = .next
            ((failedWrite s off v l a).relink.finish (.error (.transportFailure (.write off v.length)))))) := by
  unfold writeThen
  rcases transportWrite_cases s off v with ⟨k, h, hm⟩ | ⟨t, hm, h⟩ | ⟨t, l, a, hm, h⟩
  · exact .inl ⟨k, by rw [h]; rfl, hm⟩
  · exact .inr ⟨t, hm, .inl (by rw [h])⟩
  · exact .inr ⟨t, hm, .inr ⟨l, a, by rw [h]⟩⟩

/-! ### The device -/

/-- All that ACCEPT can do (R83). -/
theorem acceptCommand_cases (s : State) :
    (∃ i, decode s.trig = .ok i ∧ i.wellFormed = true ∧ acceptCommand s = .next (latchCommand s i)) ∨
      acceptCommand s = .fault .undefinedCommand := by
  unfold acceptCommand
  cases decode s.trig with
  | error e => exact .inr rfl
  | ok i =>
    cases hw : i.wellFormed with
    | false => exact .inr (by simp [hw]; rfl)
    | true => exact .inl ⟨i, rfl, hw, by simp [hw]⟩

end Sys2Proof.Machine
end

