-- ==== Sys2Proof/Laws/Exec.lean ====
section
/-!
SUPPORT. What the commands and the step can do, said once.
-/

namespace Sys2Proof.Machine

open Sys2Proof

theorem pcrIndex_of_lt {b : Byte} (h : b.toNat < 3) : pcrIndex b = some ⟨b.toNat, h⟩ := dif_pos h

theorem pcrIndex_of_not_lt {b : Byte} (h : ¬ b.toNat < 3) : pcrIndex b = none := dif_neg h

theorem counterIndex_of_lt {b : Byte} (h : b.toNat < 2) : counterIndex b = some ⟨b.toNat, h⟩ := dif_pos h

theorem counterIndex_of_not_lt {b : Byte} (h : ¬ b.toNat < 2) : counterIndex b = none := dif_neg h

theorem latchedData_of_some {s : State} {c : LatchedCommand} (h : s.lcmd = some c) : s.latchedData = c.data := by
  unfold State.latchedData; rw [h]

/-- EXTEND chains, or its operands are out of range. -/
theorem execExtend_cases (i n : Byte) (s : State) :
    (∃ h : i.toNat < 3, n.toNat ≤ 80 ∧ execExtend i n s = .next (completeCommand
      (s.withPcr ⟨i.toNat, h⟩ (extendDigest hashCore s.pcr[i.toNat] s.latchedData)) [] successStatus)) ∨
    (¬ (i.toNat < 3 ∧ n.toNat ≤ 80) ∧ execExtend i n s = .fault .undefinedCommand) := by
  unfold execExtend lengthInRange
  by_cases h : i.toNat < 3
  · by_cases hn : n.toNat ≤ 80
    · refine .inl ⟨h, hn, ?_⟩
      rw [pcrIndex_of_lt h, decide_eq_true hn]
      rfl
    · refine .inr ⟨fun hc => hn hc.2, ?_⟩
      rw [pcrIndex_of_lt h, decide_eq_false hn]
      rfl
  · refine .inr ⟨fun hc => h hc.1, ?_⟩
    rw [pcrIndex_of_not_lt h]
    rfl

/-- INCREMENT adds, or its operands are out of range. -/
theorem execIncrement_cases (i a : Byte) (s : State) :
    (∃ h : i.toNat < 2, 1 ≤ a.toNat ∧ execIncrement i a s = .next (completeCommand
      (s.withCtr ⟨i.toNat, h⟩ (s.ctr[i.toNat] + zext32 a)) [] successStatus)) ∨
    (¬ (i.toNat < 2 ∧ 1 ≤ a.toNat) ∧ execIncrement i a s = .fault .undefinedCommand) := by
  unfold execIncrement
  by_cases h : i.toNat < 2
  · by_cases ha : 1 ≤ a.toNat
    · refine .inl ⟨h, ha, ?_⟩
      rw [counterIndex_of_lt h, decide_eq_true ha]
      rfl
    · refine .inr ⟨fun hc => ha hc.2, ?_⟩
      rw [counterIndex_of_lt h, decide_eq_false ha]
      rfl
  · refine .inr ⟨fun hc => h hc.1, ?_⟩
    rw [counterIndex_of_not_lt h]
    rfl

/-- QUOTE digests, or its length is out of range. -/
theorem execQuote_cases (m n : Byte) (s : State) :
    (n.toNat ≤ 80 ∧ execQuote m n s = .next
      (completeCommand s (quoteDigest hashCore m s.latchedData s).toList successStatus)) ∨
    (¬ n.toNat ≤ 80 ∧ execQuote m n s = .fault .undefinedCommand) := by
  unfold execQuote lengthInRange
  by_cases hn : n.toNat ≤ 80
  · exact .inl ⟨hn, by rw [decide_eq_true hn, if_pos rfl]⟩
  · exact .inr ⟨hn, by rw [decide_eq_false hn, if_neg Bool.false_ne_true]; rfl⟩

/-- HKDF digests, or its length is out of range. -/
theorem execHkdf_cases (n : Byte) (s : State) :
    (n.toNat ≤ 80 ∧ execHkdf n s = .next
      (completeCommand s (hkdfDigest hashCore s.kHkdf s.latchedData).toList successStatus)) ∨
    (¬ n.toNat ≤ 80 ∧ execHkdf n s = .fault .undefinedCommand) := by
  unfold execHkdf lengthInRange
  by_cases hn : n.toNat ≤ 80
  · exact .inl ⟨hn, by rw [decide_eq_true hn, if_pos rfl]⟩
  · exact .inr ⟨hn, by rw [decide_eq_false hn, if_neg Bool.false_ne_true]; rfl⟩

/-- A command that answers a next state has changed at most one PCR or one counter, and completed (R85). -/
theorem exec_next {i : Instr} {s t : State} (h : exec i s = .next t) :
    ∃ (u : State) (r : List Byte), t = completeCommand u r successStatus ∧
      (u = s ∨ (∃ k v, u = s.withPcr k v) ∨ (∃ k v, u = s.withCtr k v)) := by
  cases i with
  | nop a b c => exact ⟨s, [], by cases h; rfl, .inl rfl⟩
  | extend i n c =>
    rcases execExtend_cases i n s with ⟨hi, _, he⟩ | ⟨_, he⟩
    · exact ⟨_, [], Host.Outcome.next.inj (h.symm.trans he), .inr (.inl ⟨_, _, rfl⟩)⟩
    · cases h.symm.trans he
  | quote m n c =>
    rcases execQuote_cases m n s with ⟨_, he⟩ | ⟨_, he⟩
    · exact ⟨s, _, Host.Outcome.next.inj (h.symm.trans he), .inl rfl⟩
    · cases h.symm.trans he
  | increment i a c =>
    rcases execIncrement_cases i a s with ⟨hi, _, he⟩ | ⟨_, he⟩
    · exact ⟨_, [], Host.Outcome.next.inj (h.symm.trans he), .inr (.inr ⟨_, _, rfl⟩)⟩
    · cases h.symm.trans he
  | hkdf n b c =>
    rcases execHkdf_cases n s with ⟨_, he⟩ | ⟨_, he⟩
    · exact ⟨s, _, Host.Outcome.next.inj (h.symm.trans he), .inl rfl⟩
    · cases h.symm.trans he

/-- All that a step that answers a next state can be: a host step, ACCEPT, or the latched command's completion. -/
theorem step_next {s t : State} (h : step s = .next t) :
    s.fault = none ∧
    ((s.deviceTurn = false ∧ hostStep s.tick = .next t) ∨
      (s.phase = .commandPending ∧ s.deviceTurn = true ∧
        ∃ i, decode s.trig = .ok i ∧ i.wellFormed = true ∧ t = latchCommand s i) ∨
      (s.phase = .executing ∧ s.deviceTurn = true ∧
        ∃ c i, s.lcmd = some c ∧ decode c.trigger = .ok i ∧ exec i s = .next t)) := by
  unfold step nextMove at h
  cases hf : s.fault with
  | some k => simp only [hf] at h; cases h
  | none =>
    simp only [hf] at h
    refine ⟨rfl, ?_⟩
    cases hd : s.deviceTurn with
    | false => simp only [hd, Bool.false_eq_true, if_false] at h; exact .inl ⟨rfl, h⟩
    | true =>
      simp only [hd, if_true] at h
      have hb : s.busy = true := by
        unfold State.deviceTurn at hd; cases hb : s.busy <;> simp_all
      rcases (busy_eq_true_iff s).1 hb with hp | hp
      · simp only [deviceMove, hp] at h
        rcases acceptCommand_cases s with ⟨i, h1, h2, h3⟩ | h3
        · exact .inr (.inl ⟨hp, rfl, i, h1, h2, Host.Outcome.next.inj (h.symm.trans h3)⟩)
        · cases h.symm.trans h3
      · simp only [deviceMove, hp, fetchLatched] at h
        cases hc : s.lcmd with
        | none => simp only [hc] at h; cases h
        | some c =>
          simp only [hc] at h
          cases hdc : decode c.trigger with
          | error e => simp only [hdc] at h; cases h
          | ok i => simp only [hdc] at h; exact .inr (.inr ⟨hp, rfl, c, i, rfl, hdc, h⟩)

end Sys2Proof.Machine
end

