-- ==== Sys2Proof/Laws/HostAgent.lean ====
section
/-!
SUPPORT. What a host step can do to the device, said once: nothing, or one transport write's effect (20_memory.md R47,
40_block_transfer.md R78).
-/

namespace Sys2Proof.Machine

open Sys2Proof

/-- Two states with the same device, parameters and instance: they may differ in the host's fields and in the model's
bookkeeping of draws. -/
structure SameDevice (s t : State) : Prop where
  buf : t.buf = s.buf
  trig : t.trig = s.trig
  st0 : t.st0 = s.st0
  st1 : t.st1 = s.st1
  vbits : t.vbits = s.vbits
  vlocks : t.vlocks = s.vlocks
  ctr : t.ctr = s.ctr
  user : t.user = s.user
  pcr : t.pcr = s.pcr
  uid : t.uid = s.uid
  rootKey : t.rootKey = s.rootKey
  kQuot : t.kQuot = s.kQuot
  kHkdf : t.kHkdf = s.kHkdf
  phase : t.phase = s.phase
  lcmd : t.lcmd = s.lcmd
  fault : t.fault = s.fault
  pollLimit : t.pollLimit = s.pollLimit
  staleStatusWindow : t.staleStatusWindow = s.staleStatusWindow
  unit : t.unit = s.unit

theorem SameDevice.refl (s : State) : SameDevice s s :=
  ⟨rfl, rfl, rfl, rfl, rfl, rfl, rfl, rfl, rfl, rfl, rfl, rfl, rfl, rfl, rfl, rfl, rfl, rfl, rfl⟩

theorem SameDevice.trans {s t u : State} (h : SameDevice s t) (k : SameDevice t u) : SameDevice s u :=
  ⟨k.buf.trans h.buf, k.trig.trans h.trig, k.st0.trans h.st0, k.st1.trans h.st1, k.vbits.trans h.vbits,
    k.vlocks.trans h.vlocks, k.ctr.trans h.ctr, k.user.trans h.user, k.pcr.trans h.pcr, k.uid.trans h.uid,
    k.rootKey.trans h.rootKey, k.kQuot.trans h.kQuot, k.kHkdf.trans h.kHkdf, k.phase.trans h.phase,
    k.lcmd.trans h.lcmd, k.fault.trans h.fault, k.pollLimit.trans h.pollLimit,
    k.staleStatusWindow.trans h.staleStatusWindow, k.unit.trans h.unit⟩

theorem sameDevice_spend (s : State) (n : Nat) : SameDevice s (s.spend n) :=
  ⟨rfl, rfl, rfl, rfl, rfl, rfl, rfl, rfl, rfl, rfl, rfl, rfl, rfl, rfl, rfl, rfl, rfl, rfl, rfl⟩

theorem sameDevice_relink (s : State) : SameDevice s s.relink :=
  ⟨rfl, rfl, rfl, rfl, rfl, rfl, rfl, rfl, rfl, rfl, rfl, rfl, rfl, rfl, rfl, rfl, rfl, rfl, rfl⟩

theorem sameDevice_withTask (s : State) (k : HostTask) : SameDevice s (s.withTask k) :=
  ⟨rfl, rfl, rfl, rfl, rfl, rfl, rfl, rfl, rfl, rfl, rfl, rfl, rfl, rfl, rfl, rfl, rfl, rfl, rfl⟩

theorem sameDevice_finish (s : State) (r : HostReturn) : SameDevice s (s.finish r) :=
  ⟨rfl, rfl, rfl, rfl, rfl, rfl, rfl, rfl, rfl, rfl, rfl, rfl, rfl, rfl, rfl, rfl, rfl, rfl, rfl⟩

theorem sameDevice_withCalls (s : State) (cs : List HostCall) : SameDevice s (s.withCalls cs) :=
  ⟨rfl, rfl, rfl, rfl, rfl, rfl, rfl, rfl, rfl, rfl, rfl, rfl, rfl, rfl, rfl, rfl, rfl, rfl, rfl⟩

theorem sameDevice_tick (s : State) : SameDevice s s.tick :=
  ⟨rfl, rfl, rfl, rfl, rfl, rfl, rfl, rfl, rfl, rfl, rfl, rfl, rfl, rfl, rfl, rfl, rfl, rfl, rfl⟩

/-- What a transport write that raises no fault makes of the device. -/
def WriteEffect (s u : State) : Prop :=
  s.busy = false ∧ (u = s ∨ (∃ tr, u = acceptTrigger s tr) ∨ (∃ tr, u = s.withTrig tr) ∨ ∃ b, u = s.withBuf b)

theorem writeEffect_of_memWrite {s t : State} {off : Nat} {v : List Byte} (h : memWrite s off v = .ok t) :
    WriteEffect s t := by
  obtain ⟨hb, ⟨tr, _, _, rfl⟩ | ⟨_, _, _, rfl⟩⟩ := memWrite_cases h
  · exact ⟨hb, .inr (.inl ⟨tr, rfl⟩)⟩
  · exact ⟨hb, .inr (.inr (.inr ⟨_, rfl⟩))⟩

theorem writeEffect_failed {s : State} (hb : s.busy = false) (off : Nat) (v : List Byte) (l : BitVec 32) (a : Bool) :
    WriteEffect s (failedWrite s off v l a) := by
  refine ⟨hb, ?_⟩
  rcases failedWrite_cases s off v l a with ⟨tr, _, h | h⟩ | ⟨_, h⟩ | ⟨_, h⟩
  · exact .inr (.inl ⟨tr, h⟩)
  · exact .inr (.inr (.inl ⟨tr, h⟩))
  · exact .inl h
  · exact .inr (.inr (.inr ⟨_, h⟩))

/-- Taking up a call changes nothing on the device. -/
theorem startCall_sameDevice {s t : State} {c : HostCall} (h : startCall s c = .next t) : SameDevice s t := by
  unfold startCall at h
  split at h
  · cases h; exact sameDevice_finish _ _
  · unfold startPlan at h
    split at h
    · cases h; exact sameDevice_withTask _ _
    · cases h; exact sameDevice_withTask _ _
    · split at h
      · cases h
      · split at h
        · cases h; exact sameDevice_finish _ _
        · cases h; exact sameDevice_withTask _ _
    · split at h
      · cases h
      · split at h
        · cases h; exact sameDevice_finish _ _
        · cases h; exact sameDevice_withTask _ _
    · cases h
      unfold startFrame
      split
      · exact sameDevice_finish _ _
      · split
        · exact sameDevice_withTask _ _
        · exact sameDevice_withTask _ _

/-- A host step that reads changes nothing on the device, if what it goes on with does not. -/
theorem readThen_sameDevice {s t : State} {off n : Nat} {f : State → List Byte → State}
    (hf : ∀ u bytes, SameDevice u (f u bytes)) (h : readThen s off n f = .next t) : SameDevice s t := by
  rcases readThen_cases s off n f with ⟨k, he, _⟩ | ⟨_, he | he⟩
  · cases h.symm.trans he
  · cases h.symm.trans he
    exact ((sameDevice_spend s n).trans (sameDevice_relink _)).trans (hf _ _)
  · cases h.symm.trans he
    exact (sameDevice_relink s).trans (sameDevice_finish _ _)

/-- A host step that writes makes one write's effect on the device, if what it goes on with makes none. -/
theorem writeThen_effect {s t : State} {off : Nat} {v : List Byte} {f : State → State}
    (hf : ∀ u, SameDevice u (f u)) (h : writeThen s off v f = .next t) : ∃ u, WriteEffect s u ∧ SameDevice u t := by
  rcases writeThen_cases s off v f with ⟨k, he, _⟩ | ⟨u, hm, he | ⟨l, a, he⟩⟩
  · cases h.symm.trans he
  · cases h.symm.trans he
    exact ⟨u, writeEffect_of_memWrite hm, (sameDevice_relink u).trans (hf _)⟩
  · cases h.symm.trans he
    exact ⟨_, writeEffect_failed (memWrite_cases hm).1 off v l a, (sameDevice_relink _).trans (sameDevice_finish _ _)⟩

theorem sameDevice_blockReadOn (off len : Nat) (out : List Byte) (use : ReadUse) (t : State) (bytes : List Byte) :
    SameDevice t (blockReadOn off len out use t bytes) := by
  unfold blockReadOn
  split
  · exact sameDevice_finish _ _
  · exact sameDevice_withTask _ _

theorem sameDevice_blockWriteOn (off : Nat) (rest : List Byte) (t : State) :
    SameDevice t (blockWriteOn off rest t) := by
  unfold blockWriteOn
  split
  · exact sameDevice_finish _ _
  · exact sameDevice_withTask _ _

theorem sameDevice_payloadOn (off : Nat) (rest : List Byte) (x : Execute) (t : State) :
    SameDevice t (payloadOn off rest x t) := by
  unfold payloadOn
  split
  · exact sameDevice_withTask _ _
  · exact sameDevice_withTask _ _

theorem sameDevice_pollOn (polls : Nat) (x : Execute) (t : State) (bytes : List Byte) :
    SameDevice t (pollOn polls x t bytes) := by
  unfold pollOn
  split
  · split
    · split
      · exact sameDevice_finish _ _
      · exact sameDevice_withTask _ _
    · split
      · exact sameDevice_finish _ _
      · exact sameDevice_withTask _ _
  · exact SameDevice.refl _

theorem sameDevice_responseOn (a b : Byte) (out : List Byte) (x : Execute) (t : State) (bytes : List Byte) :
    SameDevice t (responseOn a b out x t bytes) := by
  unfold responseOn
  split
  · exact sameDevice_finish _ _
  · exact sameDevice_withTask _ _

/-- All that a host step can do to the device: nothing, or one transport write's effect. -/
theorem hostStep_device {s t : State} (h : hostStep s = .next t) :
    SameDevice s t ∨ ∃ u, WriteEffect s u ∧ SameDevice u t := by
  unfold hostStep at h
  split at h
  · unfold hostIdle at h
    split at h
    · cases h; exact .inl (SameDevice.refl _)
    · exact .inl ((sameDevice_withCalls s _).trans (startCall_sameDevice h))
  · exact .inl (readThen_sameDevice (fun _ _ => sameDevice_finish _ _) h)
  · exact .inr (writeThen_effect (fun _ => sameDevice_finish _ _) h)
  · exact .inl (readThen_sameDevice (fun _ _ => sameDevice_blockReadOn _ _ _ _ _ _) h)
  · exact .inr (writeThen_effect (fun _ => sameDevice_blockWriteOn _ _ _) h)
  · exact .inr (writeThen_effect (fun _ => sameDevice_payloadOn _ _ _ _) h)
  · exact .inr (writeThen_effect (fun _ => sameDevice_withTask _ _) h)
  · exact .inl (readThen_sameDevice (fun _ _ => sameDevice_pollOn _ _ _ _) h)
  · exact .inl (readThen_sameDevice (fun _ _ => sameDevice_responseOn _ _ _ _ _ _) h)

end Sys2Proof.Machine
end

