-- ==== Sys2Proof/Laws/PerInstr.lean ====
section
/-!
SUPPORT. The family PayloadFits: a valid command's payload fits the data buffer, and its response is empty or one digest
(30_encoding.md R62, R66; 42_commands.md R92).
-/

namespace Sys2Proof.Laws.PayloadFits

open Sys2Proof Sys2Proof.Machine

/-- What the family says of a command. -/
def Statement (i : Instr) : Prop :=
  i.wellFormed = true → payloadLength i ≤ 80 ∧ (responseLength i = 0 ∨ responseLength i = 32)

theorem nop (a b c : Byte) : Statement (.nop a b c) := fun _ => ⟨Nat.zero_le _, .inl rfl⟩

theorem extend (index length arg2 : Byte) : Statement (.extend index length arg2) := by
  intro h
  rw [Instr.wellFormed, Bool.and_eq_true, decide_eq_true_eq, decide_eq_true_eq] at h
  exact ⟨h.2, .inl rfl⟩

theorem quote (mask length arg2 : Byte) : Statement (.quote mask length arg2) :=
  fun h => ⟨of_decide_eq_true h, .inr rfl⟩

theorem increment (index addend arg2 : Byte) : Statement (.increment index addend arg2) :=
  fun _ => ⟨Nat.zero_le _, .inl rfl⟩

theorem hkdf (length arg1 arg2 : Byte) : Statement (.hkdf length arg1 arg2) :=
  fun h => ⟨of_decide_eq_true h, .inr rfl⟩

end Sys2Proof.Laws.PayloadFits
end

