-- ==== Sys2Proof/Laws/Run.lean ====
section
/-!
SUPPORT. Runs of several steps, and which step a state takes, said once.
-/

namespace Sys2Proof.Machine

open Sys2Proof

/-- A step and then `n` more. -/
theorem core_run_of_step {s u : State} (h : step s = .next u) (n : Nat) : core.run (n + 1) s = core.run n u := by
  have h' : core.step s = .next u := h
  simp only [Host.Core.run, h']

/-- Two runs, one after the other. -/
theorem core_run_trans {s u t : State} {m n : Nat} (h : core.run m s = .next u) (k : core.run n u = .next t) :
    core.run (m + n) s = .next t := by
  induction m generalizing s with
  | zero =>
    simp only [Host.Core.run] at h
    cases h
    rw [Nat.zero_add]
    exact k
  | succ m ih =>
    rw [Nat.add_right_comm]
    cases hs : step s with
    | next v =>
      rw [core_run_of_step hs] at h ⊢
      exact ih h
    | fault r =>
      have h' : core.step s = .fault r := hs
      simp only [Host.Core.run, h'] at h
      cases h
    | refused r =>
      have h' : core.step s = .refused r := hs
      simp only [Host.Core.run, h'] at h
      cases h

/-- A device that is not busy leaves the step to the host. -/
theorem deviceTurn_of_not_busy {s : State} (h : s.busy = false) : s.deviceTurn = false := by
  unfold State.deviceTurn
  rw [h]
  rfl

theorem tick_of_not_busy {s : State} (h : s.busy = false) : s.tick = s := by
  unfold State.tick
  rw [h]
  rfl

/-- The host's step. -/
theorem step_of_host {s : State} (hf : s.fault = none) (hd : s.deviceTurn = false) : step s = hostStep s.tick := by
  simp only [step, nextMove, hf, hd, Bool.false_eq_true, if_false]

/-- The device's step in CommandPending. -/
theorem step_of_pending {s : State} (hf : s.fault = none) (hd : s.deviceTurn = true) (hp : s.phase = .commandPending) :
    step s = acceptCommand s := by
  simp only [step, nextMove, hf, hd, deviceMove, hp, if_true]

/-- What a status read finds: the pair, and two draws (R47, R89). -/
theorem readBytes_status (s : State) : s.readBytes 0x54 4 = [s.st0, s.st1, s.free 2, s.free 3] := by
  have h0 : s.windowByte 0x54 = some s.st0 := by simp [State.windowByte, State.fieldByte]
  have h1 : s.windowByte 0x55 = some s.st1 := by simp [State.windowByte, State.fieldByte]
  have h2 : s.windowByte 0x56 = none := by simp [State.windowByte, State.fieldByte]
  have h3 : s.windowByte 0x57 = none := by simp [State.windowByte, State.fieldByte]
  show [(s.windowByte 0x54).getD _, (s.windowByte 0x55).getD _, (s.windowByte 0x56).getD _,
    (s.windowByte 0x57).getD _] = _
  rw [h0, h1, h2, h3]
  rfl

/-- A buffer written in two parts is written whole (R75, R76). -/
theorem overlay_take_drop (b : Bytes 80) (off c : Nat) (v : List Byte) :
    overlay (overlay b off (v.take c)) (off + c) (v.drop c) = overlay b off v := by
  apply Vector.ext
  intro k hk
  simp only [overlay_getElem]
  by_cases h1 : off ≤ k
  · by_cases h2 : off + c ≤ k
    · simp only [h1, h2, if_true, List.getElem?_drop, List.getElem?_take]
      rw [if_neg (by omega), show c + (k - (off + c)) = k - off by omega]
      cases v[k - off]? <;> rfl
    · simp only [h1, h2, if_true, if_false, List.getElem?_take]
      rw [if_pos (by omega)]
  · rw [if_neg (by omega), if_neg h1, if_neg h1]

end Sys2Proof.Machine
end

