-- ==== Sys2Proof/Machine/Text.lean ====
section
/-!
DEFINITION. The text form of commands and host operations (30_encoding.md R70): notation only, as D37 says. Texts are
lists of characters.
-/

namespace Sys2Proof.Machine

open Sys2Proof

/-- One hexadecimal digit. -/
def hexDigit (n : Nat) : Char :=
  (['0', '1', '2', '3', '4', '5', '6', '7', '8', '9', 'A', 'B', 'C', 'D', 'E', 'F'][n]?).getD '?'

/-- The hex pair of a byte (R11). -/
def hexByte (b : Byte) : List Char := [hexDigit (b.toNat / 16), hexDigit (b.toNat % 16)]

/-- A byte string, `-` when empty (R70). -/
def hexBytes (b : List Byte) : List Char := if b.isEmpty then ['-'] else b.flatMap hexByte

/-- A hexadecimal constant of one byte (R11). -/
def hexConstant (b : Byte) : List Char := '0' :: 'x' :: hexByte b

/-- A mnemonic and its operands, separated as in R70. -/
def textLine (mnemonic : List Char) (operands : List (List Char)) : List Char :=
  mnemonic ++ (if operands.isEmpty then [] else ' ' :: (List.intersperse [',', ' '] operands).flatten)

/-- The text of a call that has one: the five commands, READ and WRITE, with operands in R70's ranges. -/
def hostCallText : HostCall → Option (List Char)
  | .nop => some (textLine ['N', 'O', 'P'] [])
  | .extend i d =>
    if i ≤ 2 ∧ d.length ≤ 80 then some (textLine ['E', 'X', 'T', 'E', 'N', 'D'] [Nat.toDigits 10 i, hexBytes d]) else none
  | .quote m c =>
    if m ≤ 0xFF ∧ c.length ≤ 80 then
      some (textLine ['Q', 'U', 'O', 'T', 'E'] [hexConstant (BitVec.ofNat 8 m), hexBytes c])
    else none
  | .increment i a =>
    if i ≤ 1 ∧ 1 ≤ a ∧ a ≤ 255 then
      some (textLine ['I', 'N', 'C', 'R', 'E', 'M', 'E', 'N', 'T'] [Nat.toDigits 10 i, Nat.toDigits 10 a])
    else none
  | .hkdf d => if d.length ≤ 80 then some (textLine ['H', 'K', 'D', 'F'] [hexBytes d]) else none
  | .blockRead off n => some (textLine ['R', 'E', 'A', 'D'] [hexConstant off, Nat.toDigits 10 n])
  | .blockWrite off b => some (textLine ['W', 'R', 'I', 'T', 'E'] [hexConstant off, hexBytes b])
  | .memRead _ _ => none
  | .memWrite _ _ => none
  | .execute _ _ _ _ _ _ => none
  | .executeChecked _ _ _ _ _ _ => none
  | .readPcr _ => none
  | .readCounter _ => none
  | .readVolatileBits => none
  | .readVolatileLocks => none
  | .readUserData => none
  | .readIdentity => none

end Sys2Proof.Machine
end

