-- ==== Sys2Proof/Tests/Slice0.lean ====
section
/-!
SUPPORT. Tests, each against a value written in spec/ (95_test_vectors.md unless another file is named), and the
witnesses that the hypotheses of the obligations can be met.
-/

namespace Sys2Proof.Tests

open Sys2Proof Sys2Proof.Machine

/-! ### Helpers -/

/-- A field of the next state, where there is one. -/
def after {α : Type} (o : Host.Outcome State Fault Refusal) (f : State → α) : Option α :=
  match o with
  | .next t => some (f t)
  | .fault _ => none
  | .refused _ => none

/-- The fault of an outcome, where there is one. -/
def faultOf (o : Host.Outcome State Fault Refusal) : Option Fault :=
  match o with
  | .next _ => none
  | .fault k => some k
  | .refused _ => none

/-- The fault of a transfer, where there is one. -/
def errorOf {α : Type} (r : Except Fault α) : Option Fault :=
  match r with
  | .ok _ => none
  | .error k => some k

/-- Ascending bytes from `a`. -/
def ascending (a n : Nat) : List Byte := (List.range n).map fun k => BitVec.ofNat 8 (a + k)

/-- The test parameters of 95_test_vectors.md section 2. -/
def params : Params where
  rootKey := zero32
  seedQuot := ascending 0 16
  seedHkdf := ascending 0 16
  uid := #v[0x00, 0x11, 0x22, 0x33, 0x44, 0x55, 0x66, 0x77, 0x88, 0x99, 0xAA, 0xBB, 0xCC, 0xDD, 0xEE, 0xFF]
  userData := Vector.ofFn fun k => BitVec.ofNat 8 (0x20 + k.val)
  ctrInit := #v[0, 0]
  vbitsInit := 5
  vlocksInit := 1
  pollLimit := none
  staleStatusWindow := false

/-- The state of section 2, with a buffer of zeros, success in the status pair and a transport that delivers. -/
def start : State :=
  { State.initial StandardHash.core params 0 0 with
    buf := Vector.replicate 80 0, trig := ⟨0, 0, 0, 0⟩, st0 := 0xC3, st1 := 0x00, link := .delivered }

/-- Section 2's state executing the command of these trigger bytes with this data latched. -/
def executing (t : Trigger) (data : List Byte) : State :=
  { start with phase := .executing, st0 := 0xFF, trig := t, lcmd := some ⟨t, data⟩ }

/-- Section 2's state with this trigger pending. -/
def pending (t : Trigger) : State := { start with phase := .commandPending, st0 := 0xFF, trig := t }

/-- The bytes "abc". -/
def abc : List Byte := [0x61, 0x62, 0x63]

/-! ### WellFormed: each check of R66 refuses -/

theorem test_extend_index_3_is_ill_formed : (Instr.extend 3 0 0).wellFormed = false := by decide
theorem test_extend_length_81_is_ill_formed : (Instr.extend 0 81 0).wellFormed = false := by decide
theorem test_quote_length_81_is_ill_formed : (Instr.quote 0 81 0).wellFormed = false := by decide
theorem test_increment_index_2_is_ill_formed : (Instr.increment 2 1 0).wellFormed = false := by decide
theorem test_increment_addend_0_is_ill_formed : (Instr.increment 0 0 0).wellFormed = false := by decide
theorem test_hkdf_length_81_is_ill_formed : (Instr.hkdf 81 0 0).wellFormed = false := by decide
theorem test_limits_are_well_formed :
    (Instr.extend 2 80 0).wellFormed = true ∧ (Instr.quote 0xFF 80 0).wellFormed = true ∧
      (Instr.increment 1 255 0).wellFormed = true ∧ (Instr.hkdf 80 0 0).wellFormed = true := by decide

/-! ### Decoding: words of section 3.3 -/

theorem test_decode_nop : decodeTableWord 32 0x00000000 = some (.nop 0 0 0) := by decide
theorem test_decode_extend : decodeTableWord 32 0xE0000300 = some (.extend 0 3 0) := by decide
theorem test_decode_quote : decodeTableWord 32 0xA0000481 = some (.quote 0x81 4 0) := by decide
theorem test_decode_increment : decodeTableWord 32 0xC000FF01 = some (.increment 1 255 0) := by decide
theorem test_decode_hkdf : decodeTableWord 32 0xB0000003 = some (.hkdf 3 0 0) := by decide
theorem test_decode_keeps_arg2 : decodeTableWord 32 0xE07F0000 = some (.extend 0 0 0x7F) := by decide
theorem test_decode_refuses_0x01 : decodeTableWord 32 0x01000000 = none := by decide
theorem test_decode_truncated : decodeBytes [0xAA, 0xBB] = .error .truncated := by rfl
theorem test_word_of_extend : (encode (.extend 2 80 0)).word = 0xE0005002 := by decide

/-! ### The hash core and the keys: sections 5 and 3.1 -/

theorem test_sha256_abc : StandardHash.sha256 abc =
    #v[0xBA, 0x78, 0x16, 0xBF, 0x8F, 0x01, 0xCF, 0xEA, 0x41, 0x41, 0x40, 0xDE, 0x5D, 0xAE, 0x22, 0x23,
       0xB0, 0x03, 0x61, 0xA3, 0x96, 0x17, 0x7A, 0x9C, 0xB4, 0x10, 0xFF, 0x61, 0xF2, 0x00, 0x15, 0xAD] := by
  decide +kernel

/-- R120 by FIPS 180-4: the padding ends with 64 bits of length; 2^29 bytes are 2^32 bits. -/
theorem test_length_field : StandardHash.lengthField (2 ^ 29) = [0, 0, 0, 1, 0, 0, 0, 0] := by decide +kernel

/-- V-KEY-1. -/
theorem test_quote_key : quoteKey StandardHash.core params =
    #v[0x46, 0xCE, 0xC8, 0x31, 0x5D, 0x85, 0xEA, 0xB0, 0xF0, 0x6C, 0x24, 0x8D, 0xC6, 0x56, 0x11, 0xDD,
       0x08, 0x93, 0xE3, 0x5A, 0x27, 0x02, 0x37, 0x86, 0x50, 0xBA, 0xED, 0xAE, 0x21, 0x88, 0xCC, 0x12] := by
  decide +kernel

/-- V-KEY-2. -/
theorem test_hkdf_key : hkdfKey StandardHash.core params =
    #v[0xF5, 0xE9, 0x63, 0xB4, 0x9D, 0x74, 0x1C, 0x16, 0x32, 0x70, 0x91, 0x2B, 0x2F, 0x52, 0x3B, 0xE2,
       0x0B, 0x3B, 0xD0, 0x90, 0x35, 0x39, 0xE2, 0x8E, 0x30, 0x90, 0xBA, 0xE6, 0x4F, 0x76, 0x77, 0xE9] := by
  decide +kernel

/-! ### The commands' values on the standard core -/

/-- V-EXT-1. -/
theorem test_extend_abc : extendDigest StandardHash.core zero32 abc =
    #v[0x36, 0x5A, 0xA7, 0xD8, 0xF7, 0xF9, 0x40, 0x2C, 0x4B, 0x94, 0x34, 0x50, 0x2B, 0x4C, 0xC8, 0x9D,
       0xDB, 0x09, 0xFE, 0x50, 0xD7, 0xCD, 0x95, 0xB4, 0x93, 0xB8, 0x34, 0xC6, 0x2D, 0x5A, 0x53, 0x70] := by
  decide +kernel

/-- V-EXT-6: the longest data. -/
theorem test_extend_longest : extendDigest StandardHash.core zero32 (List.replicate 80 0xAA) =
    #v[0x8B, 0x20, 0xC8, 0x95, 0xF3, 0x97, 0x39, 0xD9, 0xD2, 0x34, 0x79, 0x60, 0x19, 0x40, 0x35, 0x80,
       0xD1, 0x62, 0x12, 0x28, 0xA0, 0xA8, 0x61, 0xBD, 0xA8, 0x33, 0x58, 0x4F, 0xAE, 0x65, 0x65, 0x01] := by
  decide +kernel

/-- V-QUO-6: every field and the longest nonce. -/
theorem test_quote_every_field : quoteDigest StandardHash.core 0xFF (ascending 0 80) start =
    #v[0x37, 0x8B, 0x05, 0x33, 0xE9, 0x8C, 0x7E, 0xC3, 0x77, 0x33, 0xB3, 0x6E, 0xC3, 0xC9, 0x40, 0x85,
       0xEE, 0xBD, 0xA2, 0x71, 0x7F, 0xFA, 0x26, 0xC9, 0x37, 0x2B, 0x7B, 0x92, 0x5F, 0xD1, 0x8C, 0xCF] := by
  decide +kernel

/-- V-QUO-19: the two counters in their order, and a nonce. -/
theorem test_quote_counters : quoteDigest StandardHash.core 0x30 [0xAA] { start with ctr := #v[0, 0x17E] } =
    #v[0xB0, 0x85, 0x44, 0x30, 0xB1, 0x0F, 0x00, 0xF2, 0xF9, 0x1A, 0x42, 0x65, 0xD0, 0x4B, 0x6D, 0x45,
       0x9E, 0x69, 0xC7, 0x95, 0x3C, 0xEA, 0x47, 0x59, 0xF0, 0xD5, 0x0D, 0xA4, 0x57, 0xC5, 0x86, 0x55] := by
  decide +kernel

/-- V-HKD-2. -/
theorem test_hkdf_abc : hkdfDigest StandardHash.core start.kHkdf abc =
    #v[0x50, 0xAB, 0x5E, 0x5B, 0x14, 0x60, 0xEF, 0x01, 0x9A, 0x97, 0x14, 0xB3, 0xB5, 0xEF, 0x33, 0xCE,
       0x61, 0x1B, 0x38, 0x46, 0x05, 0x77, 0x12, 0x1D, 0xFB, 0xF8, 0x46, 0x33, 0xC4, 0xAA, 0x5E, 0x31] := by
  decide +kernel

/-! ### One step -/

/-- V-INC-4: the sum wraps. -/
theorem test_increment_wraps :
    after (step { executing ⟨1, 255, 0, 0xC0⟩ [] with ctr := #v[0, 0xFFFFFF80] }) State.ctr = some #v[0, 0x7F] := by
  decide +kernel

/-- V-INC-6: no carry into the other counter. -/
theorem test_increment_no_carry :
    after (step { executing ⟨0, 1, 0, 0xC0⟩ [] with ctr := #v[0xFFFFFFFF, 5] }) State.ctr = some #v[0, 5] := by
  decide +kernel

/-- V-NOP-1. -/
theorem test_nop_status :
    after (step (executing ⟨0xAA, 0xBB, 0xCC, 0⟩ [])) (fun t => (t.st0, t.st1, t.phase)) =
      some (0xC3, 0x00, .completed) := by
  decide +kernel

/-- 41_command_protocol.md R83: ACCEPT latches exactly the payload its length byte names. -/
theorem test_accept_latches :
    after (step { pending ⟨0, 3, 0, 0xE0⟩ with buf := Vector.ofFn fun k => BitVec.ofNat 8 (0x61 + k.val) }) State.lcmd =
      some (some ⟨⟨0, 3, 0, 0xE0⟩, abc⟩) := by
  decide +kernel

/-- V-ENC-4. -/
theorem test_accept_refuses_pcr_3 : faultOf (step (pending ⟨3, 0, 0, 0xE0⟩)) = some .undefinedCommand := by
  decide +kernel
/-- V-ENC-8. -/
theorem test_accept_refuses_addend_0 : faultOf (step (pending ⟨0, 0, 0, 0xC0⟩)) = some .undefinedCommand := by
  decide +kernel
/-- V-ENC-12. -/
theorem test_accept_refuses_opcode_1 : faultOf (step (pending ⟨0, 0, 0, 0x01⟩)) = some .undefinedCommand := by
  decide +kernel

/-- The host's question at reset: the placed word is the next to run (42_commands.md R95). -/
theorem test_placed_nop_runs :
    after (step (State.reset.withFetchWord 32 0)) (fun t => (t.st0, t.phase)) = some (0xC3, .completed) := by
  decide +kernel
/-- A placed INCREMENT of 0 is an undefined command (R66). -/
theorem test_placed_increment_of_0_faults :
    faultOf (step (State.reset.withFetchWord 32 0xC0000000)) = some .undefinedCommand := by
  decide +kernel

/-! ### Transfers: section 3.2 -/

/-- V-BLK-8. -/
theorem test_read_past_the_window : errorOf (memRead start 0xF0 17) = some .outOfWindow := by decide +kernel
/-- V-BLK-9. -/
theorem test_read_of_33 : errorOf (memRead start 0x00 33) = some .transferSize := by decide +kernel
/-- V-BLK-10. -/
theorem test_write_of_0 : errorOf (memWrite start 0x20 []) = some .transferSize := by decide +kernel
/-- V-BLK-11. -/
theorem test_write_to_a_counter : errorOf (memWrite start 0x60 [1, 0, 0, 0]) = some .writeToReadOnly := by
  decide +kernel
/-- V-BLK-12. -/
theorem test_write_into_the_trigger : errorOf (memWrite start 0x4F [0xAA, 0xBB]) = some .malformedTrigger := by
  decide +kernel
/-- V-BLK-13. -/
theorem test_write_of_part_of_the_trigger : errorOf (memWrite start 0x51 [1, 2, 3]) = some .malformedTrigger := by
  decide +kernel
/-- V-BLK-18. -/
theorem test_write_while_busy : errorOf (memWrite (pending ⟨0, 0, 0, 0⟩) 0x00 [1, 2, 3, 4]) = some .writeWhileBusy := by
  decide +kernel
/-- V-BLK-14. -/
theorem test_read_counters :
    { start with ctr := #v[3, 0x17E] }.readBytes 0x60 8 = [0x03, 0, 0, 0, 0x7E, 0x01, 0, 0] := by decide +kernel
/-- V-BLK-15. -/
theorem test_read_bits_and_locks : start.readBytes 0x58 8 = [0x05, 0, 0, 0, 0x01, 0, 0, 0] := by decide +kernel
/-- V-BLK-16: the reserved bytes are draws. -/
theorem test_read_status :
    (List.range 4).map (fun k => start.windowByte (0x54 + k)) = [some 0xC3, some 0x00, none, none] := by
  decide +kernel
/-- V-BLK-3, the second chunk. -/
theorem test_second_chunk_lands : (overlay start.buf 0x20 (ascending 0x20 18))[49] = 0x31 := by decide +kernel

/-! ### The host: sections 3.4 and 3.10 -/

/-- V-EXE-3. -/
theorem test_payload_of_81 :
    after (startCall start (.execute 0xE0 0 81 0 (ascending 0 81) 0)) State.returned =
      some [.error (.invalidArgument .payloadLength)] := by decide +kernel
/-- V-EXE-4. -/
theorem test_response_of_81 :
    after (startCall start (.execute 0 0 0 0 [] 81)) State.returned =
      some [.error (.protocolViolation .responseLength)] := by decide +kernel
/-- V-EXE-6. -/
theorem test_other_pair_is_failure :
    frameResult ⟨0, 0, 0, 0, [], 0, .checked⟩ 0x01 0x00 [] = .error (.commandFailed 0x01 0x00) := by decide
/-- V-ACC-1: the transfer an accessor makes. -/
theorem test_read_pcr_transfer : hostPlan (.readPcr 2) = .read 0xD0 32 .bytes := by decide
/-- V-QUO-20. -/
theorem test_mask_of_0x100 : argumentError (.quote 0x100 []) = some .fieldMask := by decide
/-- P5, step 2: the trigger makes the pair busy at once. -/
theorem test_trigger_makes_busy :
    after (step { start with task := .trigger ⟨0xE0, 0, 3, 0, abc, 0, .checked⟩ }) (fun t => (t.phase, t.st0, t.trig.word)) =
      some (.commandPending, 0xFF, 0xE0000300) := by decide +kernel
/-- 30_encoding.md R70: P1's first line. -/
theorem test_text_of_extend : hostCallText (.extend 0 abc) = some "EXTEND 0, 616263".toList := by decide +kernel
/-- 30_encoding.md R70: P1's last line. -/
theorem test_text_of_read : hostCallText (.blockRead 0x60 4) = some "READ 0x60, 4".toList := by decide +kernel

/-! ### Witnesses: the hypotheses of each obligation can be met -/

/-- Section 2's state after a successful command. -/
def resting : State := { start with phase := .completed }

/-- A transport that fails, with every byte of the chunk landed. -/
def failing : LinkOutcome := .failed 0xFFFFFFFF true

/-- Section 2's state waiting for the command of this trigger. -/
def polling (t : Trigger) (data : List Byte) : State :=
  { executing t data with task := .poll 0 ⟨t.opcode, t.arg0, t.arg1, t.arg2, data, 0, .checked⟩ }

/-- A framed call with nothing in it. -/
def emptyFrame (r : Nat) : Execute := ⟨0, 0, 0, 0, [], r, .checked⟩

/-- The hypotheses of `AcceptanceFaultsOn` at a trigger. -/
def acceptable (t : Trigger) (bad : Trigger → Prop) : Prop :=
  (pending t).fault = none ∧ (pending t).phase = .commandPending ∧ (pending t).deviceTurn = true ∧ bad (pending t).trig

theorem witness_EncodingADecodedWordGivesTheWord :
    (0xE0000300 < 2 ^ 32 ∧ decodeTableWord 32 0xE0000300 = some (.extend 0 3 0)) ∧
      (0xB0FFFFFF < 2 ^ 32 ∧ decodeTableWord 32 0xB0FFFFFF = some (.hkdf 0xFF 0xFF 0xFF)) := by decide

theorem witness_UnusedArgumentBytesChangeNothing :
    (∃ x, hostPlan .nop = .frame x) ∧ (∃ x, hostPlan (.extend 2 abc) = .frame x) ∧
      (∃ x, hostPlan (.quote 0xFF abc) = .frame x) ∧ (∃ x, hostPlan (.increment 1 255) = .frame x) ∧
      (∃ x, hostPlan (.hkdf abc) = .frame x) := ⟨⟨_, rfl⟩, ⟨_, rfl⟩, ⟨_, rfl⟩, ⟨_, rfl⟩, ⟨_, rfl⟩⟩

theorem witness_ExtendChainsTheLatchedData :
    (0 : Byte).toNat < 3 ∧ (2 : Byte).toNat < 3 ∧ (80 : Byte).toNat ≤ 80 ∧
      (executing ⟨2, 80, 0, 0xE0⟩ (ascending 0 80)).lcmd = some ⟨⟨2, 80, 0, 0xE0⟩, ascending 0 80⟩ :=
  ⟨by decide, by decide, by decide, rfl⟩

/-- Each bound of the acceptance clauses, just passed. -/
theorem witness_AcceptanceFaultsOn :
    acceptable ⟨3, 0, 0, 0xE0⟩ (fun t => t.opcode = 0xE0 ∧ (2 < t.arg0.toNat ∨ 80 < t.arg1.toNat)) ∧
      acceptable ⟨0, 81, 0, 0xE0⟩ (fun t => t.opcode = 0xE0 ∧ (2 < t.arg0.toNat ∨ 80 < t.arg1.toNat)) ∧
      acceptable ⟨0, 81, 0, 0xA0⟩ (fun t => t.opcode = 0xA0 ∧ 80 < t.arg1.toNat) ∧
      acceptable ⟨2, 1, 0, 0xC0⟩ (fun t => t.opcode = 0xC0 ∧ (1 < t.arg0.toNat ∨ t.arg1 = 0)) ∧
      acceptable ⟨0, 0, 0, 0xC0⟩ (fun t => t.opcode = 0xC0 ∧ (1 < t.arg0.toNat ∨ t.arg1 = 0)) ∧
      acceptable ⟨81, 0, 0, 0xB0⟩ (fun t => t.opcode = 0xB0 ∧ 80 < t.arg0.toNat) :=
  ⟨⟨rfl, rfl, rfl, rfl, .inl (by decide)⟩, ⟨rfl, rfl, rfl, rfl, .inr (by decide)⟩, ⟨rfl, rfl, rfl, rfl, by decide⟩,
    ⟨rfl, rfl, rfl, rfl, .inl (by decide)⟩, ⟨rfl, rfl, rfl, rfl, .inr rfl⟩, ⟨rfl, rfl, rfl, rfl, by decide⟩⟩

theorem witness_QuoteReturnsTheKeyedDigest :
    (80 : Byte).toNat ≤ 80 ∧
      (executing ⟨0xFF, 80, 0, 0xA0⟩ (ascending 0 80)).lcmd = some ⟨⟨0xFF, 80, 0, 0xA0⟩, ascending 0 80⟩ :=
  ⟨by decide, rfl⟩

theorem witness_IncrementAddsModulo32Bits :
    (0 : Byte).toNat < 2 ∧ (1 : Byte).toNat < 2 ∧ 1 ≤ (1 : Byte).toNat ∧ 1 ≤ (255 : Byte).toNat := by decide

theorem witness_HkdfReturnsTheSeedDigest :
    (80 : Byte).toNat ≤ 80 ∧
      (executing ⟨80, 0, 0, 0xB0⟩ (ascending 0 80)).lcmd = some ⟨⟨80, 0, 0, 0xB0⟩, ascending 0 80⟩ :=
  ⟨by decide, rfl⟩

theorem witness_ValidCommandsEndWithSuccess :
    (Instr.extend 2 80 0).wellFormed = true ∧ ∃ t, exec (.nop 0 0 0) start = .next t := ⟨by decide, _, rfl⟩

theorem witness_OutOfRangeOperandsFault : (Instr.increment 0 0 0).wellFormed = false := by decide

theorem witness_ExtendLeavesTheOtherPcrs :
    ∃ t, exec (.extend 2 3 0) (executing ⟨2, 3, 0, 0xE0⟩ abc) = .next t := ⟨_, rfl⟩

theorem witness_IncrementLeavesTheOtherCounter : ∃ t, exec (.increment 1 255 0) start = .next t := ⟨_, rfl⟩

theorem witness_NopQuoteHkdfLeaveTheWindowFields :
    (∃ t, exec (.nop 0 0 0) start = .next t) ∧
      (∃ t, exec (.quote 0xFF 3 0) (executing ⟨0xFF, 3, 0, 0xA0⟩ abc) = .next t) ∧
      (∃ t, exec (.hkdf 3 0 0) (executing ⟨3, 0, 0, 0xB0⟩ abc) = .next t) := ⟨⟨_, rfl⟩, ⟨_, rfl⟩, ⟨_, rfl⟩⟩

theorem witness_TwoExtendsNestTheirDigests :
    (executing ⟨0, 3, 0, 0xE0⟩ abc).pcr[0] = zero32 ∧
      ∃ t u : State, exec (.extend 0 3 0) (executing ⟨0, 3, 0, 0xE0⟩ abc) = .next t ∧
        exec (.extend 0 3 0) { t with lcmd := some ⟨⟨0, 3, 0, 0xE0⟩, abc⟩ } = .next u :=
  ⟨rfl, _, _, rfl, rfl⟩

theorem witness_QuoteMessageLength : (ascending 0 80).length ≤ 80 ∧ (ascending 0 80).length = 80 := by decide

theorem witness_QuoteIgnoresUnselectedFields :
    (0x01 : Byte).getLsbD 0 = true ∧ (0x01 : Byte).getLsbD 1 = false ∧
      { start with ctr := #v[1, 1] }.kQuot = start.kQuot ∧ { start with ctr := #v[1, 1] }.pcr[0] = start.pcr[0] ∧
      { start with ctr := #v[1, 1] }.ctr[0] ≠ start.ctr[0] := ⟨by decide, by decide, rfl, rfl, by decide⟩

/-- V-QUO-13 with V-QUO-11's counter in the place of its PCR: a selected field differs, and so do the digests. -/
theorem witness_QuoteSeesEverySelectedField :
    CollisionFreeAt StandardHash.core start.kQuot (quoteMsg 0x30 [] { start with ctr := #v[3, 0] })
        (quoteMsg 0x30 [] start) ∧
      quoteMsg 0x30 [] { start with ctr := #v[3, 0] } ≠ quoteMsg 0x30 [] start ∧
      quoteMsg 0x10 [] { start with ctr := #v[3, 0] } = quoteMsg 0x10 [] start :=
  ⟨fun _ => by decide +kernel, by decide +kernel, by decide +kernel⟩

/-- V-KEY-1 and V-KEY-2 differ. -/
theorem witness_PurposeKeysAreSeparated :
    CollisionFreeAt StandardHash.core zero32 (ascending 0 16 ++ tagQuot) (ascending 0 16 ++ tagHkdf) :=
  fun _ => by decide +kernel

theorem witness_QuietMachineStaysAsItIs :
    (start.fault = none ∧ start.phase = .idle ∧ start.task = .idle ∧ start.calls = []) ∧
      (resting.fault = none ∧ resting.phase = .completed ∧ resting.task = .idle ∧ resting.calls = []) :=
  ⟨⟨rfl, rfl, rfl, rfl⟩, rfl, rfl, rfl, rfl⟩

theorem witness_TransferOutsideTheWindowFaults :
    0x100 < 0xF0 + 17 ∧ (ascending 0 17).length = 17 ∧ 0x100 < (0xF0 : Byte).toNat + 17 ∧
      0x100 < (0xF0 : Byte).toNat + (ascending 0 17).length := by decide

theorem witness_TransferOfWrongSizeFaults :
    (0x20 + 0 ≤ 0x100 ∧ ([] : List Byte).length = 0) ∧ (0xDF + 33 ≤ 0x100 ∧ 32 < 33 ∧ (ascending 0 33).length = 33) := by
  decide

/-- A boundary value for each clause: a busy device, a write reaching 0x54, one touching the trigger, the last one of
the buffer, the trigger write. -/
theorem witness_WriteFaultsComeInTheSpecsOrder :
    (pending ⟨0, 0, 0, 0⟩).phase = .commandPending ∧ start.phase = .idle ∧
      (0x54 < 0x51 + (ascending 0 4).length) ∧
      (0x4F + (ascending 0 2).length ≤ 0x54 ∧ 0x50 < 0x4F + (ascending 0 2).length) ∧
      (0x50 + (ascending 0 3).length ≤ 0x54 ∧ ¬ (0x50 = 0x50 ∧ (ascending 0 3).length = 4)) ∧
      0x30 + (ascending 0 32).length ≤ 0x50 ∧ (ascending 0 4).length = 4 :=
  ⟨rfl, rfl, by decide, by decide, by decide, by decide, by decide⟩

theorem witness_BufferWriteStoresExactlyItsBytes :
    start.phase = .idle ∧ 0x30 + (ascending 0 32).length ≤ 0x50 ∧ 1 ≤ (ascending 0 32).length ∧
      (ascending 0 32).length ≤ 32 := ⟨rfl, by decide, by decide, by decide⟩

theorem witness_TriggerWriteStartsTheCommand : start.phase = .idle ∧ resting.phase = .completed := ⟨rfl, rfl⟩

theorem witness_ReadsReturnFieldsWithoutSideEffect :
    0xE0 + 32 ≤ 0x100 ∧ start.windowByte (0xE0 + 31) = some 0xFF ∧ start.windowByte 0x50 = none ∧
      start.phase = .idle ∧ 0x30 + 31 < 80 := by decide +kernel

theorem witness_OnlyStatusIsReadableWhileBusy :
    (pending ⟨0, 0, 0, 0⟩).phase = .commandPending ∧ (executing ⟨0, 0, 0, 0⟩ []).phase = .executing ∧
      start.phase = .idle ∧ 0xFF < 0x100 := ⟨rfl, rfl, rfl, by decide⟩

theorem witness_AccessorsReadTheirFields : start.phase = .idle ∧ resting.phase = .completed := ⟨rfl, rfl⟩

theorem witness_FailedWriteLeavesOldOrNewBytes :
    (∃ t, transportWrite { start with link := failing } 0x4F [1] = .failed t) ∧
      (∃ t, transportWrite { start with link := failing } 0x50 [0, 0, 0, 0] = .failed t) := ⟨⟨_, rfl⟩, ⟨_, rfl⟩⟩

theorem witness_FailedReadLeavesTheDevice : ∃ t, transportRead { start with link := failing } 0x00 32 = .failed t :=
  ⟨_, rfl⟩

theorem witness_BlockWriteEndsWrittenOrFailed :
    let s : State := { start with task := .blockWrite 0x00 (ascending 0 80) }
    s.fault = none ∧ s.phase = .idle ∧ s.task = .blockWrite 0x00 (ascending 0 80) ∧ ascending 0 80 ≠ [] ∧
      0x00 + (ascending 0 80).length ≤ 0x50 := ⟨rfl, rfl, rfl, by decide, by decide⟩

theorem witness_BlockReadReturnsTheWindowOrFails :
    let s : State := { start with task := .blockRead 0x70 144 [] .bytes }
    s.fault = none ∧ s.phase = .idle ∧ s.task = .blockRead 0x70 144 [] .bytes ∧ 0x70 + 144 ≤ 0x100 ∧
      ∀ k, k < 144 → (s.windowByte (0x70 + k)).isSome := ⟨rfl, rfl, rfl, by decide, by decide +kernel⟩

theorem witness_BadArgumentsEndBeforeAnyTransfer :
    argumentError (.extend 3 (ascending 0 81)) = some .pcrIndex ∧
      argumentError (.quote 0xFF (ascending 0 81)) = some .payloadLength ∧
      argumentError (.increment 2 0) = some .counterIndex ∧ argumentError (.increment 1 0) = some .addend ∧
      argumentError (.increment 0 256) = some .addend ∧ argumentError (.increment 1 255) = none ∧
      argumentError (.hkdf (ascending 0 81)) = some .payloadLength ∧ argumentError (.readPcr 3) = some .pcrIndex ∧
      argumentError (.readCounter 2) = some .counterIndex ∧
      80 < (ascending 0 81).length ∧ (ascending 0 80).length ≤ 80 ∧ 80 < 81 := by decide

theorem witness_CheckedFramingFailsOnAnyOtherPair :
    (emptyFrame 0).framing = .checked ∧ ((0xC3 : Byte), (0x01 : Byte)) ≠ (0xC3, 0x00) := by decide

/-- A state for each clause: busy with no limit, busy at the limit, done with no response and with one. -/
theorem witness_PollGoesOnWhileBusy :
    let s := polling ⟨0, 0, 0, 0⟩ []
    let r : State := { resting with task := .poll 0 (emptyFrame 0) }
    let q : State := { resting with task := .poll 0 (emptyFrame 32) }
    (s.task = .poll 0 (emptyFrame 0) ∧ s.link = .delivered ∧ s.st0 = 0xFF ∧ ∀ l, s.pollLimit = some l → 0 + 1 < l) ∧
      (∃ l, { s with pollLimit := some 1 }.pollLimit = some l ∧ l ≤ 0 + 1) ∧
      (r.task = .poll 0 (emptyFrame 0) ∧ r.link = .delivered ∧ r.st0 ≠ 0xFF ∧ (emptyFrame 0).responseLength = 0) ∧
      (q.task = .poll 0 (emptyFrame 32) ∧ q.link = .delivered ∧ q.st0 ≠ 0xFF ∧ (emptyFrame 32).responseLength ≠ 0) := by
  refine ⟨⟨rfl, rfl, rfl, ?_⟩, ⟨1, rfl, by decide⟩, ⟨rfl, rfl, by decide, rfl⟩, rfl, rfl, by decide, by decide⟩
  intro l h; cases h

theorem witness_StepRunsTheLatchedCommand :
    let s := executing ⟨2, 3, 0, 0xE0⟩ abc
    s.fault = none ∧ s.phase = .executing ∧ s.deviceTurn = true ∧ s.lcmd = some ⟨⟨2, 3, 0, 0xE0⟩, abc⟩ ∧
      decode ⟨2, 3, 0, 0xE0⟩ = .ok (.extend 2 3 0) ∧ (Instr.extend 2 3 0).wellFormed = true :=
  ⟨rfl, rfl, rfl, rfl, rfl, by decide⟩

theorem witness_PlacedWordRunsNext : decodeTableWord 32 0xA0FF50FF = some (.quote 0xFF 0x50 0xFF) := by decide

theorem witness_AcceptLatchesAValidCommand :
    let s := pending ⟨1, 255, 0, 0xC0⟩
    s.fault = none ∧ s.phase = .commandPending ∧ s.deviceTurn = true ∧ decode s.trig = .ok (.increment 1 255 0) ∧
      (Instr.increment 1 255 0).wellFormed = true := ⟨rfl, rfl, rfl, rfl, by decide⟩

theorem witness_InvalidTriggerFaultsAtAcceptance :
    let s := pending ⟨3, 0, 0, 0xE0⟩
    s.fault = none ∧ s.phase = .commandPending ∧ s.deviceTurn = true ∧ ¬ TriggerValid s.trig :=
  ⟨rfl, rfl, rfl, by unfold TriggerValid; decide +kernel⟩

/-- One state for each of the four kinds of write. -/
theorem witness_WritesWhileBusyFault :
    let s : State := { pending ⟨0, 0, 0, 0⟩ with deviceDelay := 1 }
    (s.phase = .commandPending ∧ s.fault = none) ∧
      { s with task := .rawWrite 0x00 [1] }.deviceTurn = false ∧
      { s with task := .blockWrite 0x00 [1] }.deviceTurn = false ∧
      { s with task := .payload 79 [1] (emptyFrame 0) }.deviceTurn = false ∧
      { s with task := .trigger (emptyFrame 0) }.deviceTurn = false := ⟨⟨rfl, rfl⟩, rfl, rfl, rfl, rfl⟩

/-- The polling state meets the invariant and the machine steps from it. -/
theorem inv_polling : (polling ⟨1, 255, 0, 0xC0⟩ []).Inv where
  noFault := rfl
  latch := by
    intro c h
    cases h
    exact ⟨.increment 1 255 0, rfl, by decide, rfl⟩
  phase := ⟨rfl, by decide⟩
  task := Nat.zero_le 80

theorem witness_EveryStepKeepsTheInvariant :
    (polling ⟨1, 255, 0, 0xC0⟩ []).Inv ∧ ∃ t, step (polling ⟨1, 255, 0, 0xC0⟩ []) = .next t := ⟨inv_polling, _, rfl⟩

theorem witness_FixedFieldsNeverChange : ∃ t, step (executing ⟨0, 0, 0, 0⟩ []) = .next t := ⟨_, rfl⟩

/-- The step of an EXTEND, and one of another kind. -/
theorem witness_OnlyExtendWritesAPcr :
    (∃ t, step (executing ⟨2, 3, 0, 0xE0⟩ abc) = .next t) ∧ ∃ t, step (pending ⟨2, 3, 0, 0xE0⟩) = .next t :=
  ⟨⟨_, rfl⟩, _, rfl⟩

theorem witness_OnlyIncrementWritesACounter :
    (∃ t, step (executing ⟨1, 255, 0, 0xC0⟩ []) = .next t) ∧ ∃ t, step (pending ⟨1, 255, 0, 0xC0⟩) = .next t :=
  ⟨⟨_, rfl⟩, _, rfl⟩

theorem witness_PhaseFollowsTheLifeCycle :
    after (step { resting with task := .trigger (emptyFrame 0) }) State.phase = some .commandPending ∧
      after (step (pending ⟨0, 0, 0, 0⟩)) State.phase = some .executing ∧
      after (step (executing ⟨0, 0, 0, 0⟩ [])) State.phase = some .completed := ⟨rfl, rfl, rfl⟩

theorem witness_DerivedKeysShowOnlyInDigests :
    (∀ m n a, nextMove (executing ⟨2, 3, 0, 0xE0⟩ abc) ≠ .run (.quote m n a)) ∧
      ∀ n a b, nextMove (executing ⟨2, 3, 0, 0xE0⟩ abc) ≠ .run (.hkdf n a b) :=
  ⟨fun _ _ _ h => (nomatch (Move.run.inj h)), fun _ _ _ h => (nomatch (Move.run.inj h))⟩

theorem witness_FaultIsNeverCleared :
    { start with fault := some .transferSize }.fault = some .transferSize ∧
      step (pending ⟨3, 0, 0, 0xE0⟩) = .fault .undefinedCommand := ⟨rfl, rfl⟩

theorem witness_InstancesShareNothing : (1 : Nat) ≠ 0 ∧ [start, resting][1]? = some resting := ⟨by decide, rfl⟩

theorem witness_AcceptedCommandsComplete :
    let s := polling ⟨1, 255, 0, 0xC0⟩ []
    s.Inv ∧ s.busy = true ∧ s.pendingValid ∧ s.onlyReads := ⟨inv_polling, rfl, (by intro h; cases h), rfl, trivial⟩

theorem witness_IncrementCallCountsOrFails :
    let s : State := { start with calls := [.increment 1 255] }
    s.Inv ∧ s.phase = .idle ∧ s.task = .idle ∧ s.calls = [.increment 1 255] ∧
      s.staleStatusWindow = false ∧ 1 < 2 ∧ 1 ≤ 255 :=
  ⟨{ noFault := rfl, latch := (by intro c h; cases h), phase := trivial, task := trivial },
    rfl, rfl, rfl, rfl, by decide, by decide⟩

theorem witness_WrappersExpandAsTheTableSays : (ascending 0 80).length ≤ 80 ∧ 1 ≤ 1 ∧ 255 ≤ 255 := by decide

theorem witness_ExecuteMovesPayloadAndResponse :
    let x : Execute := ⟨0xB0, 80, 0, 0, ascending 0 80, 32, .checked⟩
    let s : State := { start with task := .payload 0 (ascending 0 80) x }
    let r : State := { resting with task := .response 0xC3 0x00 [] x }
    (s.fault = none ∧ s.phase = .idle ∧ s.task = .payload 0 (ascending 0 80) x ∧ ascending 0 80 ≠ [] ∧
        (ascending 0 80).length ≤ 80) ∧
      (r.fault = none ∧ r.phase = .completed ∧ r.task = .response 0xC3 0x00 [] x ∧ 1 ≤ x.responseLength ∧
        x.responseLength ≤ 80) :=
  ⟨⟨rfl, rfl, rfl, by decide, by decide⟩, rfl, rfl, rfl, by decide, by decide⟩

theorem witness_FramedCallRunsItsCommandOrFails :
    let s : State := { start with calls := [.hkdf abc] }
    s.Inv ∧ s.phase = .idle ∧ s.task = .idle ∧ s.calls = [.hkdf abc] ∧ argumentError (.hkdf abc) = none ∧
      hostPlan (.hkdf abc) = .frame ⟨0xB0, 3, 0, 0, abc, 32, .checked⟩ ∧ abc.length ≤ 80 ∧ 32 ≤ 80 ∧
      decode ⟨3, 0, 0, 0xB0⟩ = .ok (.hkdf 3 0 0) ∧ (Instr.hkdf 3 0 0).wellFormed = true ∧
      abc.length = payloadLength (.hkdf 3 0 0) ∧ s.staleStatusWindow = false :=
  ⟨{ noFault := rfl, latch := (by intro c h; cases h), phase := trivial, task := trivial },
    rfl, rfl, rfl, by decide, by decide, by decide, by decide, rfl, by decide, by decide, rfl⟩

end Sys2Proof.Tests
end

section
/-!
PROOFS. 10_state.md: which step writes which field of the state, and which fields influence which step.
-/

namespace Sys2Proof.Machine

open Sys2Proof

-- One declaration at a time: beside the tests above, whose kernel checks are still under way when this is reached, the
-- check's memory limit leaves no room for more threads.
set_option Elab.async false

/-! ### The decoder -/

/-- A trigger is the encoding of the command it decodes to: the decoder drops no byte (30_encoding.md R63). -/
theorem encode_of_decode {t : Trigger} {i : Instr} (h : decode t = .ok i) : encode i = t := by
  obtain ⟨a, b, c, op⟩ := t
  unfold decode at h
  split_ifs at h with ho ho ho ho ho <;> cases h <;> exact congrArg (Trigger.mk a b c) ho.symm

/-! ### The bytes a write stores -/

theorem overlay_getElem_inside (b : Bytes 80) {off k : Nat} {v : List Byte} (hk : k < 80)
    (h : off ≤ k ∧ k - off < v.length) : (overlay b off v)[k] = v[k - off] := by
  rw [overlay_getElem, if_pos h.1, List.getElem?_eq_getElem h.2, Option.getD_some]

theorem overlay_getElem_outside (b : Bytes 80) {off k : Nat} {v : List Byte} (hk : k < 80)
    (h : k < off ∨ off + v.length ≤ k) : (overlay b off v)[k] = b[k] := by
  rw [overlay_getElem]
  split
  · rw [List.getElem?_eq_none (by omega), Option.getD_none]
  · rfl

/-- A buffer write of an idle device is let through and overlays the buffer (20_memory.md R47). -/
theorem memWrite_buffer {s : State} {off : Nat} {v : List Byte} (hb : s.busy = false) (ho : off + v.length ≤ 0x50)
    (h1 : 1 ≤ v.length) (h32 : v.length ≤ 32) : memWrite s off v = .ok (s.withBuf (overlay s.buf off v)) := by
  have hw : writeFault s off v.length = none := (writeFault_eq_none_iff ..).2 ⟨hb, h1, h32, .inl ho⟩
  have hne : off ≠ 0x50 := by omega
  simp only [memWrite, hw, applyWrite, if_neg hne]

/-! ### The registers: the fields no window write reaches -/

/-- Two states with the same hidden keys and the same window fields from 0x58 on. -/
structure SameRegisters (s t : State) : Prop where
  rootKey : t.rootKey = s.rootKey
  kQuot : t.kQuot = s.kQuot
  kHkdf : t.kHkdf = s.kHkdf
  uid : t.uid = s.uid
  user : t.user = s.user
  vbits : t.vbits = s.vbits
  vlocks : t.vlocks = s.vlocks
  ctr : t.ctr = s.ctr
  pcr : t.pcr = s.pcr

theorem SameRegisters.trans {s t u : State} (h : SameRegisters s t) (k : SameRegisters t u) : SameRegisters s u :=
  ⟨k.rootKey.trans h.rootKey, k.kQuot.trans h.kQuot, k.kHkdf.trans h.kHkdf, k.uid.trans h.uid, k.user.trans h.user,
    k.vbits.trans h.vbits, k.vlocks.trans h.vlocks, k.ctr.trans h.ctr, k.pcr.trans h.pcr⟩

theorem SameDevice.sameRegisters {s t : State} (h : SameDevice s t) : SameRegisters s t :=
  ⟨h.rootKey, h.kQuot, h.kHkdf, h.uid, h.user, h.vbits, h.vlocks, h.ctr, h.pcr⟩

theorem sameRegisters_latchCommand (s : State) (i : Instr) : SameRegisters s (latchCommand s i) :=
  ⟨rfl, rfl, rfl, rfl, rfl, rfl, rfl, rfl, rfl⟩

theorem sameRegisters_completeCommand (s : State) (r : List Byte) (p : Byte × Byte) :
    SameRegisters s (completeCommand s r p) :=
  ⟨rfl, rfl, rfl, rfl, rfl, rfl, rfl, rfl, rfl⟩

theorem WriteEffect.sameRegisters {s u : State} (h : WriteEffect s u) : SameRegisters s u := by
  obtain ⟨-, rfl | ⟨tr, rfl⟩ | ⟨tr, rfl⟩ | ⟨b, rfl⟩⟩ := h
  · exact (SameDevice.refl _).sameRegisters
  · exact ⟨rfl, rfl, rfl, rfl, rfl, rfl, rfl, rfl, rfl⟩
  · exact ⟨rfl, rfl, rfl, rfl, rfl, rfl, rfl, rfl, rfl⟩
  · exact ⟨rfl, rfl, rfl, rfl, rfl, rfl, rfl, rfl, rfl⟩

/-- The host cannot write a register (10_state.md R19, R21). -/
theorem hostStep_sameRegisters {s t : State} (h : hostStep s = .next t) : SameRegisters s t := by
  obtain hd | ⟨u, hw, hd⟩ := hostStep_device h
  · exact hd.sameRegisters
  · exact hw.sameRegisters.trans hd.sameRegisters

/-- Only the completion of a latched command can write a register. -/
theorem step_registers {s t : State} (h : step s = .next t) :
    SameRegisters s t ∨ ∃ (c : LatchedCommand) (i : Instr), s.phase = .executing ∧ s.lcmd = some c ∧
      encode i = c.trigger ∧ exec i s = .next t := by
  obtain ⟨-, ⟨-, hh⟩ | ⟨-, -, i, -, -, rfl⟩ | ⟨hp, -, c, i, hc, hd, he⟩⟩ := step_next h
  · exact .inl ((sameDevice_tick s).sameRegisters.trans (hostStep_sameRegisters hh))
  · exact .inl (sameRegisters_latchCommand s i)
  · exact .inr ⟨c, i, hp, hc, encode_of_decode hd, he⟩

/-! ### What each command writes -/

theorem exec_extend_next {i n a : Byte} {s t : State} (h : exec (.extend i n a) s = .next t) :
    ∃ hi : i.toNat < 3, t = completeCommand
      (s.withPcr ⟨i.toNat, hi⟩ (extendDigest hashCore s.pcr[i.toNat] s.latchedData)) [] successStatus := by
  obtain ⟨hi, -, he⟩ | ⟨-, he⟩ := execExtend_cases i n s
  · exact ⟨hi, Host.Outcome.next.inj (h.symm.trans he)⟩
  · cases h.symm.trans he

theorem exec_increment_next {i a b : Byte} {s t : State} (h : exec (.increment i a b) s = .next t) :
    ∃ hi : i.toNat < 2, 1 ≤ a.toNat ∧ t = completeCommand
      (s.withCtr ⟨i.toNat, hi⟩ (s.ctr[i.toNat] + zext32 a)) [] successStatus := by
  obtain ⟨hi, ha, he⟩ | ⟨-, he⟩ := execIncrement_cases i a s
  · exact ⟨hi, ha, Host.Outcome.next.inj (h.symm.trans he)⟩
  · cases h.symm.trans he

/-- A command that completes leaves every register, or is an EXTEND, or is an INCREMENT. -/
theorem exec_registers {i : Instr} {s t : State} (h : exec i s = .next t) :
    SameRegisters s t ∨ (∃ index length arg2, i = .extend index length arg2) ∨
      ∃ index addend arg2, i = .increment index addend arg2 := by
  cases i with
  | nop a b c => cases h; exact .inl (sameRegisters_completeCommand ..)
  | extend i n a => exact .inr (.inl ⟨i, n, a, rfl⟩)
  | quote m n a =>
    obtain ⟨-, he⟩ | ⟨-, he⟩ := execQuote_cases m n s
    · cases h.symm.trans he; exact .inl (sameRegisters_completeCommand ..)
    · cases h.symm.trans he
  | increment i a b => exact .inr (.inr ⟨i, a, b, rfl⟩)
  | hkdf n a b =>
    obtain ⟨-, he⟩ | ⟨-, he⟩ := execHkdf_cases n s
    · cases h.symm.trans he; exact .inl (sameRegisters_completeCommand ..)
    · cases h.symm.trans he

/-! ### Changing the hidden keys -/

/-- The state with its three hidden keys changed, each by a function of its own (10_state.md R25). -/
def State.rekey (fr fq fh : Bytes 32 → Bytes 32) (s : State) : State :=
  { s with rootKey := fr s.rootKey, kQuot := fq s.kQuot, kHkdf := fh s.kHkdf }

section

variable {fr fq fh : Bytes 32 → Bytes 32} (s : State)

theorem memRead_rekey (off n : Nat) :
    memRead (s.rekey fr fq fh) off n = (memRead s off n).map fun r => (r.1, r.2.rekey fr fq fh) := by
  unfold memRead
  cases transferFault off n <;> rfl

theorem applyWrite_rekey (off : Nat) (v : List Byte) :
    applyWrite (s.rekey fr fq fh) off v = (applyWrite s off v).rekey fr fq fh := by
  unfold applyWrite
  split
  · split <;> rfl
  · rfl

theorem writeFault_rekey (off n : Nat) : writeFault (s.rekey fr fq fh) off n = writeFault s off n := rfl

theorem memWrite_rekey (off : Nat) (v : List Byte) :
    memWrite (s.rekey fr fq fh) off v = (memWrite s off v).map (State.rekey fr fq fh) := by
  simp only [memWrite, writeFault_rekey, applyWrite_rekey]
  cases writeFault s off v.length <;> rfl

theorem failedWrite_rekey (off : Nat) (v : List Byte) (l : BitVec 32) (a : Bool) :
    failedWrite (s.rekey fr fq fh) off v l a = (failedWrite s off v l a).rekey fr fq fh := by
  have ht : (s.rekey fr fq fh).trig = s.trig := rfl
  simp only [failedWrite, ht]
  split
  · split
    · cases a <;> rfl
    · rfl
  · rfl

theorem readThen_rekey (off n : Nat) {goOn : State → List Byte → State}
    (hg : ∀ u b, goOn (u.rekey fr fq fh) b = (goOn u b).rekey fr fq fh) :
    readThen (s.rekey fr fq fh) off n goOn = mapNext (State.rekey fr fq fh) (readThen s off n goOn) := by
  have hl : (s.rekey fr fq fh).link = s.link := rfl
  simp only [readThen, transportRead, memRead_rekey, hl]
  cases memRead s off n with
  | error k => rfl
  | ok r =>
    cases s.link with
    | delivered => exact congrArg Host.Outcome.next (hg r.2.relink r.1)
    | failed l a => rfl

theorem writeThen_rekey (off : Nat) (v : List Byte) {goOn : State → State}
    (hg : ∀ u, goOn (u.rekey fr fq fh) = (goOn u).rekey fr fq fh) :
    writeThen (s.rekey fr fq fh) off v goOn = mapNext (State.rekey fr fq fh) (writeThen s off v goOn) := by
  have hl : (s.rekey fr fq fh).link = s.link := rfl
  simp only [writeThen, transportWrite, memWrite_rekey, failedWrite_rekey, hl]
  cases memWrite s off v with
  | error k => rfl
  | ok t =>
    cases s.link with
    | delivered => exact congrArg Host.Outcome.next (hg t.relink)
    | failed l a => rfl

theorem startFrame_rekey (x : Execute) :
    startFrame (s.rekey fr fq fh) x = (startFrame s x).rekey fr fq fh := by
  unfold startFrame
  cases frameError x with
  | some e => rfl
  | none => cases x.payload.isEmpty <;> rfl

theorem startPlan_rekey (p : HostPlan) :
    startPlan (s.rekey fr fq fh) p = mapNext (State.rekey fr fq fh) (startPlan s p) := by
  cases p with
  | rawRead off n => rfl
  | rawWrite off v => rfl
  | read off len use =>
    simp only [startPlan]
    split
    · rfl
    · split <;> rfl
  | write off v =>
    simp only [startPlan]
    split
    · rfl
    · split <;> rfl
  | frame x => exact congrArg Host.Outcome.next (startFrame_rekey s x)

theorem startCall_rekey (c : HostCall) :
    startCall (s.rekey fr fq fh) c = mapNext (State.rekey fr fq fh) (startCall s c) := by
  unfold startCall
  cases argumentError c with
  | some check => rfl
  | none => exact startPlan_rekey s (hostPlan c)

theorem blockReadOn_rekey (off len : Nat) (out : List Byte) (use : ReadUse) (bytes : List Byte) :
    blockReadOn off len out use (s.rekey fr fq fh) bytes =
      (blockReadOn off len out use s bytes).rekey fr fq fh := by
  unfold blockReadOn
  split <;> rfl

theorem blockWriteOn_rekey (off : Nat) (rest : List Byte) :
    blockWriteOn off rest (s.rekey fr fq fh) = (blockWriteOn off rest s).rekey fr fq fh := by
  unfold blockWriteOn
  split <;> rfl

theorem payloadOn_rekey (off : Nat) (rest : List Byte) (x : Execute) :
    payloadOn off rest x (s.rekey fr fq fh) = (payloadOn off rest x s).rekey fr fq fh := by
  unfold payloadOn
  split <;> rfl

theorem pollOn_rekey (polls : Nat) (x : Execute) (bytes : List Byte) :
    pollOn polls x (s.rekey fr fq fh) bytes = (pollOn polls x s bytes).rekey fr fq fh := by
  have hl : (s.rekey fr fq fh).pollLimit = s.pollLimit := rfl
  simp only [pollOn, hl]
  split
  · split
    · split <;> rfl
    · split <;> rfl
  · rfl

theorem responseOn_rekey (a b : Byte) (out : List Byte) (x : Execute) (bytes : List Byte) :
    responseOn a b out x (s.rekey fr fq fh) bytes = (responseOn a b out x s bytes).rekey fr fq fh := by
  unfold responseOn
  split <;> rfl

theorem hostIdle_rekey : hostIdle (s.rekey fr fq fh) = mapNext (State.rekey fr fq fh) (hostIdle s) := by
  have hc : (s.rekey fr fq fh).calls = s.calls := rfl
  simp only [hostIdle, hc]
  cases s.calls with
  | nil => rfl
  | cons c cs => exact startCall_rekey (s.withCalls cs) c

/-- No host step depends on a hidden key (43_accessors.md R117). -/
theorem hostStep_rekey : hostStep (s.rekey fr fq fh) = mapNext (State.rekey fr fq fh) (hostStep s) := by
  have ht : (s.rekey fr fq fh).task = s.task := rfl
  simp only [hostStep, ht]
  cases s.task with
  | idle => exact hostIdle_rekey s
  | rawRead off n => exact readThen_rekey s _ _ fun _ _ => rfl
  | rawWrite off v => exact writeThen_rekey s _ _ fun _ => rfl
  | blockRead off len out use => exact readThen_rekey s _ _ fun u b => blockReadOn_rekey u off len out use b
  | blockWrite off rest => exact writeThen_rekey s _ _ fun u => blockWriteOn_rekey u _ _
  | payload off rest x => exact writeThen_rekey s _ _ fun u => payloadOn_rekey u _ _ x
  | trigger x => exact writeThen_rekey s _ _ fun _ => rfl
  | poll polls x => exact readThen_rekey s _ _ fun u b => pollOn_rekey u _ x b
  | response a b out x => exact readThen_rekey s _ _ fun u bytes => responseOn_rekey u a b out x bytes

theorem acceptCommand_rekey :
    acceptCommand (s.rekey fr fq fh) = mapNext (State.rekey fr fq fh) (acceptCommand s) := by
  have ht : (s.rekey fr fq fh).trig = s.trig := rfl
  simp only [acceptCommand, ht]
  cases decode s.trig with
  | error e => rfl
  | ok i =>
    simp only
    split <;> rfl

theorem completeCommand_rekey (r : List Byte) (p : Byte × Byte) :
    completeCommand (s.rekey fr fq fh) r p = (completeCommand s r p).rekey fr fq fh := by
  have hb : completedBuf (s.rekey fr fq fh) r p = completedBuf s r p := completedBuf_congr r p rfl rfl
  unfold completeCommand
  rw [hb]
  rfl

/-- A command's completion depends on the quote key only if it is a QUOTE, and on the HKDF key only if it is an HKDF. -/
theorem exec_rekey (i : Instr) (hq : ∀ m n a, i = .quote m n a → fq s.kQuot = s.kQuot)
    (hh : ∀ n a b, i = .hkdf n a b → fh s.kHkdf = s.kHkdf) :
    exec i (s.rekey fr fq fh) = mapNext (State.rekey fr fq fh) (exec i s) := by
  cases i with
  | nop a b c => exact congrArg Host.Outcome.next (completeCommand_rekey s _ _)
  | extend i n a =>
    simp only [exec, execExtend]
    split
    · next k _ _ => exact congrArg Host.Outcome.next (completeCommand_rekey (s.withPcr k _) _ _)
    · rfl
  | quote m n a =>
    have hd : quoteDigest hashCore m (s.rekey fr fq fh).latchedData (s.rekey fr fq fh)
        = quoteDigest hashCore m s.latchedData s :=
      congrArg (fun key => hashCore.hmacSha256 key (quoteMsg m s.latchedData s)) (hq m n a rfl)
    simp only [exec, execQuote, hd, completeCommand_rekey]
    split <;> rfl
  | increment i a b =>
    simp only [exec, execIncrement]
    split
    · next k _ _ => exact congrArg Host.Outcome.next (completeCommand_rekey (s.withCtr k _) _ _)
    · rfl
  | hkdf n a b =>
    have hd : hkdfDigest hashCore (s.rekey fr fq fh).kHkdf (s.rekey fr fq fh).latchedData
        = hkdfDigest hashCore s.kHkdf s.latchedData :=
      congrArg (fun key => hashCore.hmacSha256 key s.latchedData) (hh n a b rfl)
    simp only [exec, execHkdf, hd, completeCommand_rekey]
    split <;> rfl

/-- Which agent moves, and how, does not depend on a hidden key. -/
theorem nextMove_rekey : nextMove (s.rekey fr fq fh) = nextMove s := rfl

/-- A step commutes with a change of the hidden keys that leaves the key of the digest it computes. -/
theorem step_rekey (hq : ∀ m n a, nextMove s = .run (.quote m n a) → fq s.kQuot = s.kQuot)
    (hh : ∀ n a b, nextMove s = .run (.hkdf n a b) → fh s.kHkdf = s.kHkdf) :
    step (s.rekey fr fq fh) = mapNext (State.rekey fr fq fh) (step s) := by
  simp only [step, nextMove_rekey]
  cases hm : nextMove s with
  | halted k => rfl
  | host => exact hostStep_rekey s.tick
  | accept => exact acceptCommand_rekey s
  | run i => exact exec_rekey s i (fun m n a hi => hq m n a (hi ▸ hm)) (fun n a b hi => hh n a b (hi ▸ hm))
  | nothingLatched => rfl

end

/-! ### The phase and the fault -/

/-- The host moves the phase only by a trigger, and only of a device that is not busy (41_command_protocol.md R80). -/
theorem hostStep_phase {s t : State} (h : hostStep s = .next t) :
    t.phase = s.phase ∨ ((s.phase = .idle ∨ s.phase = .completed) ∧ t.phase = .commandPending) := by
  obtain hd | ⟨u, ⟨hb, rfl | ⟨tr, rfl⟩ | ⟨tr, rfl⟩ | ⟨b, rfl⟩⟩, hd⟩ := hostStep_device h
  · exact .inl hd.phase
  · exact .inl hd.phase
  · exact .inr ⟨(busy_eq_false_iff s).1 hb, hd.phase⟩
  · exact .inl hd.phase
  · exact .inl hd.phase

theorem exec_phase {i : Instr} {s t : State} (h : exec i s = .next t) : t.phase = .completed := by
  obtain ⟨u, r, rfl, -⟩ := exec_next h
  rfl

theorem step_of_fault {s : State} {k : Fault} (h : s.fault = some k) : step s = .fault k := by
  simp only [step, nextMove, h]

theorem advance_of_fault {s : State} {k : Fault} (h : step s = .fault k) : advance s = s.recordFault k := by
  simp only [advance, h]

/-! ### The obligations -/

/-- Settles O48: no other step than a completion writes a register, and of the commands only EXTEND writes a PCR. -/
theorem onlyExtendWritesAPcr : Obligations.OnlyExtendWritesAPcr := by
  refine ⟨fun i => Vector.getElem_replicate i.isLt, fun s t h => ?_⟩
  obtain hr | ⟨⟨tr, d⟩, i, hp, hc, rfl, he⟩ := step_registers h
  · exact .inl hr.pcr
  obtain hr | ⟨_, _, _, rfl⟩ | ⟨_, _, _, rfl⟩ := exec_registers he
  · exact .inl hr.pcr
  · obtain ⟨hi, rfl⟩ := exec_extend_next he
    have hd : s.latchedData = d := latchedData_of_some hc
    exact .inr ⟨_, hi, hp, hc, rfl, by rw [hd]; rfl⟩
  · obtain ⟨hi, -, rfl⟩ := exec_increment_next he
    exact .inl rfl

/-- Settles O49: no other step than a completion writes a register, and of the commands only INCREMENT a counter. -/
theorem onlyIncrementWritesACounter : Obligations.OnlyIncrementWritesACounter := by
  intro s t h
  obtain hr | ⟨⟨tr, d⟩, i, hp, hc, rfl, he⟩ := step_registers h
  · exact .inl hr.ctr
  obtain hr | ⟨_, _, _, rfl⟩ | ⟨_, _, _, rfl⟩ := exec_registers he
  · exact .inl hr.ctr
  · obtain ⟨hi, rfl⟩ := exec_extend_next he
    exact .inl rfl
  · obtain ⟨hi, ha, rfl⟩ := exec_increment_next he
    exact .inr ⟨_, hi, hp, hc, rfl, ha, rfl⟩

/-- Settles O51: the step commutes with a change of the keys that leaves the two derived ones. -/
theorem rootKeyInfluencesNoStep : Obligations.RootKeyInfluencesNoStep := fun s k =>
  step_rekey (fr := fun _ => k) (fq := id) (fh := id) s (fun _ _ _ _ => rfl) (fun _ _ _ _ => rfl)

/-- Settles O52: the step commutes with a change of the keys when it computes no digest under one. -/
theorem derivedKeysShowOnlyInDigests : Obligations.DerivedKeysShowOnlyInDigests := fun s kq kh hq hh =>
  step_rekey (fr := id) (fq := fun _ => kq) (fh := fun _ => kh) s
    (fun m n a hm => absurd hm (hq m n a)) (fun n a b hm => absurd hm (hh n a b))

/-- Settles O14: the window's bytes from 0x58 on are views of their fields, of which EXTEND writes one PCR. -/
theorem extendLeavesTheOtherPcrs : Obligations.ExtendLeavesTheOtherPcrs := by
  intro index n arg2 s t h
  obtain ⟨hi, rfl⟩ := exec_extend_next h
  have hset : ∀ (v : Bytes 32) (j : Nat) (hj : j < 3), j ≠ index.toNat →
      (s.pcr.set index.toNat v)[j] = s.pcr[j] :=
    fun v j hj hne => Vector.getElem_set_ne hi hj hne.symm
  refine ⟨fun j hj => hset _ j j.isLt hj, fun a ha hout => ?_⟩
  exact fieldByte_congr_of_le a ha rfl rfl rfl rfl (fun _ _ => rfl) (fun _ _ => rfl)
    (fun _ _ => hset _ 0 (by omega) (by omega)) (fun _ _ => hset _ 1 (by omega) (by omega))
    (fun _ _ => hset _ 2 (by omega) (by omega))

/-- Settles O15: the window's bytes from 0x58 on are views of their fields, of which INCREMENT writes one counter. -/
theorem incrementLeavesTheOtherCounter : Obligations.IncrementLeavesTheOtherCounter := by
  intro index addend arg2 s t h
  obtain ⟨hi, -, rfl⟩ := exec_increment_next h
  have hset : ∀ (v : Word) (j : Nat) (hj : j < 2), j ≠ index.toNat → (s.ctr.set index.toNat v)[j] = s.ctr[j] :=
    fun v j hj hne => Vector.getElem_set_ne hi hj hne.symm
  refine ⟨fun j hj => hset _ j j.isLt hj, fun a ha hout => ?_⟩
  exact fieldByte_congr_of_le a ha rfl rfl rfl rfl (fun _ _ => hset _ 0 (by omega) (by omega))
    (fun _ _ => hset _ 1 (by omega) (by omega)) (fun _ _ => rfl) (fun _ _ => rfl) (fun _ _ => rfl)

/-- Settles O29: the write overlays the buffer. -/
theorem bufferWriteStoresExactlyItsBytes : Obligations.BufferWriteStoresExactlyItsBytes := by
  intro s off v hp ho h1 h32
  exact ⟨overlay s.buf off v, memWrite_buffer ((busy_eq_false_iff s).2 hp) ho h1 h32, fun k =>
    ⟨overlay_getElem_inside s.buf k.isLt, overlay_getElem_outside s.buf k.isLt⟩⟩

/-- Settles O47: a step that writes a register is a completion, which writes a PCR or a counter. -/
theorem fixedFieldsNeverChange : Obligations.FixedFieldsNeverChange := by
  intro s t h
  obtain hr | ⟨c, i, -, -, -, he⟩ := step_registers h
  · exact ⟨hr.rootKey, hr.kQuot, hr.kHkdf, hr.uid, hr.user, hr.vbits, hr.vlocks⟩
  obtain ⟨u, r, rfl, rfl | ⟨k, v, rfl⟩ | ⟨k, v, rfl⟩⟩ := exec_next he
  · exact ⟨rfl, rfl, rfl, rfl, rfl, rfl, rfl⟩
  · exact ⟨rfl, rfl, rfl, rfl, rfl, rfl, rfl⟩
  · exact ⟨rfl, rfl, rfl, rfl, rfl, rfl, rfl⟩

/-- Settles O50: a host step, ACCEPT and COMPLETE each take the edges of the life cycle that are theirs. -/
theorem phaseFollowsTheLifeCycle : Obligations.PhaseFollowsTheLifeCycle := by
  intro s t h
  obtain ⟨-, ⟨-, hh⟩ | ⟨hp, -, i, -, -, rfl⟩ | ⟨hp, -, c, i, -, -, he⟩⟩ := step_next h
  · exact (hostStep_phase hh).imp id .inl
  · exact .inr (.inr (.inl ⟨hp, rfl⟩))
  · exact .inr (.inr (.inr ⟨hp, exec_phase he⟩))

/-- Settles O23: each field of `State.initial`; the draws of TRIG and the status pair start at number 80. -/
theorem initialisationSetsEveryField : Obligations.InitialisationSetsEveryField := by
  intro h p unit d
  exact ⟨fun i => Vector.getElem_replicate i.isLt, rfl, rfl, rfl, rfl, rfl, rfl, rfl, rfl, rfl,
    fun k => Vector.getElem_ofFn k.isLt, ⟨d + 80, rfl, rfl, rfl⟩, rfl, rfl, rfl⟩

/-- Settles O24: after reset nothing is latched, recorded or under way. -/
theorem resetMeetsTheInvariant : Obligations.ResetMeetsTheInvariant where
  noFault := rfl
  latch := fun _ h => nomatch h
  phase := trivial
  task := trivial

/-- Settles O53: a recorded fault halts the machine, and a raised one is recorded. -/
theorem faultIsNeverCleared : Obligations.FaultIsNeverCleared := by
  have hrec : ∀ (s : State) (k : Fault), step s = .fault k → (advance s).fault = some k :=
    fun s k h => by rw [advance_of_fault h, State.recordFault_fault]
  exact ⟨fun s k h => ⟨step_of_fault h, hrec s k (step_of_fault h)⟩,
    fun s k h => ⟨hrec s k h, step_of_fault (hrec s k h)⟩⟩

end Sys2Proof.Machine
end

section
/-!
PROOFS. 20_memory.md: which transfers fault, what a read finds and what it leaves, and which bytes of the window can be
read; R60: devices side by side.
-/

namespace Sys2Proof.Machine

open Sys2Proof

-- One declaration at a time, within the memory the check allows beside the tests.
set_option Elab.async false

/-! ### The checks of a transfer -/

theorem transferFault_of_outside {off n : Nat} (h : 0x100 < off + n) : transferFault off n = some .outOfWindow :=
  if_pos h

theorem transferFault_of_wrong_size {off n : Nat} (h : off + n ≤ 0x100) (hn : n = 0 ∨ 32 < n) :
    transferFault off n = some .transferSize := by
  rw [transferFault, if_neg (Nat.not_lt.2 h), if_pos hn]

theorem memRead_of_transferFault (s : State) {off n : Nat} {k : Fault} (h : transferFault off n = some k) :
    memRead s off n = .error k := by
  simp only [memRead, h]

theorem memWrite_of_writeFault {s : State} {off : Nat} {v : List Byte} {k : Fault}
    (h : writeFault s off v.length = some k) : memWrite s off v = .error k := by
  simp only [memWrite, h]

/-- The bounds and the size of a write are checked before anything else (20_memory.md R47). -/
theorem writeFault_of_transferFault (s : State) {off n : Nat} {k : Fault} (h : transferFault off n = some k) :
    writeFault s off n = some k := by
  simp only [writeFault, h]

/-- A transport call whose bounds or size are wrong faults alike as a read and as a write. -/
theorem transfer_of_transferFault (s : State) {off : Nat} {v : List Byte} {k : Fault}
    (h : transferFault off v.length = some k) :
    memRead s off v.length = .error k ∧ memWrite s off v = .error k :=
  ⟨memRead_of_transferFault s h, memWrite_of_writeFault (writeFault_of_transferFault s h)⟩

/-! ### The checks of a write of admissible bounds and size -/

section

variable {s : State} {off n : Nat} (ht : transferFault off n = none)

include ht

theorem writeFault_of_busy (hb : s.busy = true) : writeFault s off n = some .writeWhileBusy := by
  simp only [writeFault, ht, if_pos hb]

theorem writeFault_of_readOnly (hb : s.busy = false) (h : 0x54 < off + n) :
    writeFault s off n = some .writeToReadOnly := by
  simp only [writeFault, ht, hb, Bool.false_eq_true, if_false, if_pos h]

theorem writeFault_of_malformed (hb : s.busy = false) (h : off + n ≤ 0x54) (ho : 0x50 < off + n)
    (hne : ¬ (off = 0x50 ∧ n = 4)) : writeFault s off n = some .malformedTrigger := by
  simp only [writeFault, ht, hb, Bool.false_eq_true, if_false, if_neg (Nat.not_lt.2 h), if_pos ho, if_neg hne]

end

/-! ### The bytes of the window -/

/-- Every byte of the window but the trigger's and the reserved ones is a view of a field (10_state.md R14). -/
theorem fieldByte_isSome_iff (s : State) {a : Nat} (ha : a < 0x100) :
    (s.fieldByte a).isSome ↔ ¬ (0x50 ≤ a ∧ a ≤ 0x53 ∨ 0x56 ≤ a ∧ a ≤ 0x57 ∨ 0x68 ≤ a ∧ a ≤ 0x6F) := by
  -- the chain of regions as arithmetic: each condition with whether the index stays inside its field
  simp only [State.fieldByte, apply_ite Option.isSome, Bool.ite_eq_true_distrib, ite_prop_iff_or, isSome_getElem?,
    le32_length, Option.isSome_none, Option.isSome_some, Bool.false_eq_true, and_false, false_or, and_true]
  omega

theorem fieldByte_buffer (s : State) {a : Nat} (h : a < 80) : s.fieldByte a = some s.buf[a] := by
  rw [State.fieldByte, if_pos h, Vector.getElem?_eq_getElem h]

theorem windowByte_of_busy {s : State} (h : s.busy = true) {a : Nat} (ha : ¬ (a = 0x54 ∨ a = 0x55)) :
    s.windowByte a = none :=
  if_pos ⟨h, ha⟩

/-- The status pair can be read in every phase (20_memory.md R47). -/
theorem windowByte_status (s : State) : s.windowByte 0x54 = some s.st0 ∧ s.windowByte 0x55 = some s.st1 := by
  simp [State.windowByte, State.fieldByte]

/-! ### The obligations -/

/-- Settles O28: the checks of R47 in their order. -/
theorem writeFaultsComeInTheSpecsOrder : Obligations.WriteFaultsComeInTheSpecsOrder := by
  intro s off v hb h1 h32
  have ht : transferFault off v.length = none := (transferFault_eq_none_iff ..).2 ⟨hb, h1, h32⟩
  refine ⟨fun hp => memWrite_of_writeFault (writeFault_of_busy ht ((busy_eq_true_iff s).2 hp)), fun hp => ?_⟩
  have hq : s.busy = false := (busy_eq_false_iff s).2 hp
  refine ⟨fun h => memWrite_of_writeFault (writeFault_of_readOnly ht hq h),
    fun h ho hne => memWrite_of_writeFault (writeFault_of_malformed ht hq h ho hne), fun h => ?_⟩
  have hw : writeFault s off v.length = none := (writeFault_eq_none_iff ..).2 ⟨hq, h1, h32, h⟩
  exact ⟨applyWrite s off v, by simp only [memWrite, hw]⟩

/-- Settles O31: a read returns `State.readBytes`, which looks each byte up in the window. -/
theorem readsReturnFieldsWithoutSideEffect : Obligations.ReadsReturnFieldsWithoutSideEffect := by
  intro s off n hb h1 h32
  have hbytes : ∀ k b, k < n → s.windowByte (off + k) = some b → (s.readBytes off n)[k]? = some b :=
    fun k b hk hw => by rw [readBytes_getElem? s off n k hk, hw, Option.getD_some]
  refine ⟨s.readBytes off n, (memRead_eq_ok_iff ..).2 ⟨⟨hb, h1, h32⟩, rfl⟩, readBytes_length .., hbytes,
    fun hp k hk h => hbytes k _ hk ?_⟩
  rw [windowByte_of_not_busy ((busy_eq_false_iff s).2 hp), fieldByte_buffer s h]

/-- Settles O32: busy hides all but the status pair; otherwise the window shows the fields. -/
theorem onlyStatusIsReadableWhileBusy : Obligations.OnlyStatusIsReadableWhileBusy := by
  intro s a ha
  obtain ⟨h0, h1⟩ := windowByte_status s
  refine ⟨fun hp => ⟨fun hs => ?_, ?_⟩, fun hp => ?_, h0, h1⟩
  · by_contra hne
    rw [windowByte_of_busy ((busy_eq_true_iff s).2 hp) hne] at hs
    cases hs
  · rintro (rfl | rfl)
    · rw [h0, Option.isSome_some]
    · rw [h1, Option.isSome_some]
  · rw [windowByte_of_not_busy ((busy_eq_false_iff s).2 hp)]
    exact fieldByte_isSome_iff s ha

/-- Settles O26: the bounds are the first check of a transfer, and the only one of a block operation taken up. -/
theorem transferOutsideTheWindowFaults : Obligations.TransferOutsideTheWindowFaults := by
  refine ⟨?_, fun s off len h => if_pos h, fun s off v h => if_pos h⟩
  rintro s off _ v h rfl
  exact transfer_of_transferFault s (transferFault_of_outside h)

/-- Settles O27: the size is the check after the bounds. -/
theorem transferOfWrongSizeFaults : Obligations.TransferOfWrongSizeFaults := by
  rintro s off _ v h hn rfl
  exact transfer_of_transferFault s (transferFault_of_wrong_size h hn)

/-- Settles O54: a device's step writes its own place in the list. -/
theorem instancesShareNothing : Obligations.InstancesShareNothing := by
  intro devices k j hj
  unfold advanceInstance
  cases devices[k]? with
  | none => rfl
  | some s => exact List.getElem?_set_ne hj.symm

end Sys2Proof.Machine
end

section
/-!
PROOFS. 30_encoding.md: the decoder and the encoder are inverse, in the trigger and in the word view; the opcode byte
selects the command; `valid` is what decodes to a well-formed command, and the rest faults at acceptance; what the
wrappers write.
-/

namespace Sys2Proof.Machine

open Sys2Proof

-- One declaration at a time, within the memory the check allows beside the tests.
set_option Elab.async false

/-! ### Commands and triggers -/

@[simp] theorem decode_encode (i : Instr) : decode (encode i) = .ok i := by
  cases i <;> rfl

/-- A trigger and the command it names determine each other (30_encoding.md R63). -/
theorem decode_eq_ok_iff {t : Trigger} {i : Instr} : decode t = .ok i ↔ encode i = t :=
  ⟨encode_of_decode, fun h => h ▸ decode_encode i⟩

/-- The opcode byte alone selects the command; `command` is any of the five constructors (30_encoding.md R65). -/
theorem decodes_to_iff_opcode {command : Byte → Byte → Byte → Instr} {op : Byte}
    (henc : ∀ a b c, encode (command a b c) = ⟨a, b, c, op⟩) (t : Trigger) :
    (∃ a b c, decode t = .ok (command a b c)) ↔ t.opcode = op := by
  simp only [decode_eq_ok_iff, henc]
  constructor
  · rintro ⟨a, b, c, rfl⟩
    rfl
  · rintro rfl
    exact ⟨t.arg0, t.arg1, t.arg2, rfl⟩

/-! ### The word view -/

/-- No byte of a trigger is lost in its word (30_encoding.md R61). -/
@[simp] theorem ofWord_word (t : Trigger) : Trigger.ofWord t.word = t := by
  obtain ⟨a0, a1, a2, op⟩ := t
  have h0 := a0.isLt
  have h1 := a1.isLt
  have h2 := a2.isLt
  have h3 := op.isLt
  simp only [Trigger.ofWord, Trigger.word, Trigger.mk.injEq]
  refine ⟨?_, ?_, ?_, ?_⟩ <;>
  · apply BitVec.eq_of_toNat_eq
    simp only [BitVec.extractLsb'_toNat, BitVec.toNat_ofNat, Nat.shiftRight_eq_div_pow]
    omega

/-- No bit of a word is lost in its trigger (30_encoding.md R61). -/
@[simp] theorem word_ofWord (w : Word) : (Trigger.ofWord w).word = w := by
  apply BitVec.eq_of_toNat_eq
  have hw := w.isLt
  simp only [Trigger.ofWord, Trigger.word, BitVec.extractLsb'_toNat, BitVec.toNat_ofNat, Nat.shiftRight_eq_div_pow]
  omega

theorem tableTrigger_32 (w : Nat) : tableTrigger 32 w = Trigger.ofWord (BitVec.ofNat 32 w) := by
  rw [tableTrigger]
  congr 1
  exact BitVec.eq_of_toNat_eq (by simp)

theorem decodeBytes_bytes (t : Trigger) : decodeBytes t.bytes = (decode t).map fun i => (i, []) := rfl

/-- A table word decodes as its trigger does. -/
theorem decodeTableWord_eq_some_iff {w : Nat} {i : Instr} :
    decodeTableWord 32 w = some i ↔ decode (Trigger.ofWord (BitVec.ofNat 32 w)) = .ok i := by
  rw [decodeTableWord, tableTrigger_32, decodeBytes_bytes]
  cases decode (Trigger.ofWord (BitVec.ofNat 32 w)) <;> simp [Except.map]

/-- The mask of R65 keeps the opcode byte and clears the arguments. -/
theorem and_opcodeMask (w : Word) : w &&& 0xFF000000 = (Trigger.ofWord w).opcode ++ 0#24 := by
  have hsplit : w.extractLsb' 24 8 ++ w.extractLsb' 0 24 = w :=
    (BitVec.extractLsb'_append_extractLsb'_eq_extractLsb' (start₁ := 0) rfl).trans BitVec.extractLsb'_eq_self
  calc w &&& 0xFF000000
      = (w.extractLsb' 24 8 ++ w.extractLsb' 0 24) &&& (BitVec.allOnes 8 ++ 0#24) := by rw [hsplit]; rfl
    _ = w.extractLsb' 24 8 ++ 0#24 := by rw [BitVec.and_append, BitVec.and_allOnes, BitVec.and_zero]

/-- A masked word has the match value of `op` exactly when it decodes to the command of `op` (30_encoding.md R65). -/
theorem masked_eq_iff_decodes {command : Byte → Byte → Byte → Instr} {op : Byte}
    (henc : ∀ a b c, encode (command a b c) = ⟨a, b, c, op⟩) (w : Word) :
    w &&& 0xFF000000 = op ++ 0#24 ↔ ∃ a b c, decode (Trigger.ofWord w) = .ok (command a b c) := by
  rw [and_opcodeMask, BitVec.append_left_inj, decodes_to_iff_opcode henc]

/-! ### Valid triggers -/

/-- The operand ranges of R66, checked of a command or read from its trigger. -/
theorem wellFormed_iff_triggerValid (i : Instr) : i.wellFormed = true ↔ TriggerValid (encode i) := by
  cases i <;> simp [Instr.wellFormed, TriggerValid, encode]

/-- `valid` admits defined opcodes only (30_encoding.md R66). -/
theorem exists_encode_of_triggerValid {t : Trigger} (h : TriggerValid t) : ∃ i, encode i = t := by
  obtain ⟨a, b, c, op⟩ := t
  obtain h | ⟨h, -⟩ | ⟨h, -⟩ | ⟨h, -⟩ | ⟨h, -⟩ := h <;> cases h
  · exact ⟨.nop a b c, rfl⟩
  · exact ⟨.extend a b c, rfl⟩
  · exact ⟨.quote a b c, rfl⟩
  · exact ⟨.increment a b c, rfl⟩
  · exact ⟨.hkdf a b c, rfl⟩

/-! ### The wrappers' argument bytes -/

theorem ofNat_byte_toNat {n : Nat} (h : n ≤ 255) : (BitVec.ofNat 8 n).toNat = n :=
  (BitVec.toNat_ofNat ..).trans (Nat.mod_eq_of_lt (Nat.lt_succ_of_le h))

/-- A length up to the maximal payload fits its argument byte (30_encoding.md R66). -/
theorem lengthByte_toNat {b : List Byte} (h : b.length ≤ 80) : (lengthByte b).toNat = b.length :=
  ofNat_byte_toNat (h.trans (by decide))

/-! ### The obligations -/

/-- Settles O1: the word keeps the trigger, and the trigger keeps the command. -/
theorem decodingAnEncodedWordGivesTheCommand : Obligations.DecodingAnEncodedWordGivesTheCommand := by
  intro i
  rw [decodeTableWord_eq_some_iff, BitVec.ofNat_toNat, BitVec.setWidth_eq, ofWord_word, decode_encode]

/-- Settles O2: the decoder drops no byte of the trigger, and the trigger no bit of the word. -/
theorem encodingADecodedWordGivesTheWord : Obligations.EncodingADecodedWordGivesTheWord := by
  intro w i hw h
  rw [decodeTableWord_eq_some_iff, decode_eq_ok_iff] at h
  rw [h, word_ofWord, BitVec.toNat_ofNat, Nat.mod_eq_of_lt hw]

/-- Settles O3: one argument for the five opcodes. -/
theorem opcodeByteSelectsTheCommand : Obligations.OpcodeByteSelectsTheCommand := fun w =>
  ⟨masked_eq_iff_decodes (op := 0x00) (fun _ _ _ => rfl) w, masked_eq_iff_decodes (op := 0xB0) (fun _ _ _ => rfl) w,
    masked_eq_iff_decodes (op := 0xA0) (fun _ _ _ => rfl) w, masked_eq_iff_decodes (op := 0xC0) (fun _ _ _ => rfl) w,
    masked_eq_iff_decodes (op := 0xE0) (fun _ _ _ => rfl) w⟩

/-- Settles O4: a valid trigger encodes a command, and a command is well-formed when its trigger is valid. -/
theorem wellFormedCommandsAreTheValidTriggers : Obligations.WellFormedCommandsAreTheValidTriggers := by
  intro t
  simp only [decode_eq_ok_iff, wellFormed_iff_triggerValid]
  constructor
  · rintro ⟨i, rfl, hv⟩
    exact hv
  · intro hv
    obtain ⟨i, rfl⟩ := exists_encode_of_triggerValid hv
    exact ⟨i, rfl, hv⟩

/-- Settles O44: acceptance latches a well-formed command or faults, and only a valid trigger names one. -/
theorem invalidTriggerFaultsAtAcceptance : Obligations.InvalidTriggerFaultsAtAcceptance := by
  intro s hf hp hd hv
  rw [step_of_pending hf hd hp]
  obtain ⟨i, hi, hw, -⟩ | hfault := acceptCommand_cases s
  · exact absurd ((wellFormedCommandsAreTheValidTriggers s.trig).1 ⟨i, hi, hw⟩) hv
  · exact hfault

/-- Settles O6: no arm of `exec`, and no length, names an unused byte; the expansions have 0 there. -/
theorem unusedArgumentBytesChangeNothing : Obligations.UnusedArgumentBytesChangeNothing := by
  refine ⟨fun _ _ _ _ _ _ _ => ⟨rfl, rfl⟩, fun _ _ _ _ _ => ⟨rfl, rfl⟩, fun _ _ _ _ _ => ⟨rfl, rfl⟩,
    fun _ _ _ _ _ => ⟨rfl, rfl⟩, fun _ _ _ _ _ _ => ⟨rfl, rfl⟩, ?_, ?_, ?_, ?_, ?_⟩
  · rintro _ ⟨⟩; exact ⟨rfl, rfl, rfl⟩
  · rintro _ _ _ ⟨⟩; rfl
  · rintro _ _ _ ⟨⟩; rfl
  · rintro _ _ _ ⟨⟩; rfl
  · rintro _ _ ⟨⟩; exact ⟨rfl, rfl⟩

/-- Settles O57: each argument byte of an expansion has the value of the call's argument, which is in range. -/
theorem wrappersExpandAsTheTableSays : Obligations.WrappersExpandAsTheTableSays := by
  refine ⟨rfl, fun i d hd => ?_, fun m c hc => ?_, fun i a _ ha => ?_, fun d hd => ?_⟩
  · exact ⟨_, _, ofNat_byte_toNat (by omega), lengthByte_toNat hd, rfl⟩
  · exact ⟨_, _, ofNat_byte_toNat (by omega), lengthByte_toNat hc, rfl⟩
  · exact ⟨_, _, ofNat_byte_toNat (by omega), ofNat_byte_toNat ha, rfl⟩
  · exact ⟨_, lengthByte_toNat hd, rfl⟩

end Sys2Proof.Machine
end

section
/-!
PROOFS. 40_block_transfer.md: what a failed transport call leaves, and how a BlockRead and a BlockWrite end.
-/

namespace Sys2Proof.Machine

open Sys2Proof

-- One declaration at a time, within the memory the check allows beside the tests.
set_option Elab.async false

/-! ### Runs that end where a predicate holds -/

/-- Some run from `s` raises no fault and ends in a state of `P`. -/
def RunsTo (s : State) (P : State → Prop) : Prop := ∃ (n : Nat) (t : State), core.run n s = .next t ∧ P t

theorem RunsTo.of_step {s u : State} {P : State → Prop} (h : step s = .next u) (k : RunsTo u P) : RunsTo s P := by
  obtain ⟨n, t, hr, hP⟩ := k
  exact ⟨n + 1, t, (core_run_of_step h n).trans hr, hP⟩

theorem RunsTo.now {s : State} {P : State → Prop} (h : P s) : RunsTo s P := ⟨0, s, rfl, h⟩

theorem RunsTo.mono {s : State} {P Q : State → Prop} (k : RunsTo s P) (h : ∀ t, P t → Q t) : RunsTo s Q := by
  obtain ⟨n, t, hr, hP⟩ := k
  exact ⟨n, t, hr, h t hP⟩

/-- Beside a device that is not busy the host takes the step, and the state is as it was when it does. -/
theorem step_of_not_busy {s : State} (hf : s.fault = none) (hb : s.busy = false) : step s = hostStep s := by
  rw [step_of_host hf (deviceTurn_of_not_busy hb), tick_of_not_busy hb]

/-! ### Chunks -/

theorem one_le_chunk {n : Nat} (h : 1 ≤ n) : 1 ≤ chunk n := Nat.le_min.2 ⟨by decide, h⟩

theorem chunk_le_32 (n : Nat) : chunk n ≤ 32 := Nat.min_le_left ..

theorem chunk_le (n : Nat) : chunk n ≤ n := Nat.min_le_right ..

/-! ### What a failed call leaves (R78) -/

/-- Each byte of `b'` is that of `b`, or the one that the write of `v` at `off` puts there (R78). -/
def OldOrNew (b : Bytes 80) (off : Nat) (v : List Byte) (b' : Bytes 80) : Prop :=
  ∀ k : Fin 80, b'[k] = b[k] ∨ ∃ h : off ≤ k.val ∧ k.val - off < v.length, b'[k] = v[k.val - off]

/-- The new byte is the one the whole write leaves. -/
theorem oldOrNew_iff_overlay {b b' : Bytes 80} {off : Nat} {v : List Byte} :
    OldOrNew b off v b' ↔ ∀ k : Fin 80, b'[k] = b[k] ∨ b'[k] = (overlay b off v)[k] := by
  refine forall_congr' fun k => ?_
  by_cases h : off ≤ k.val ∧ k.val - off < v.length
  · have hov : (overlay b off v)[k] = v[k.val - off] := overlay_getElem_inside b k.isLt h
    rw [exists_prop_of_true h, hov]
  · have hov : (overlay b off v)[k] = b[k] := overlay_getElem_outside b k.isLt (by omega)
    simp only [h, IsEmpty.exists_iff, or_false, hov, or_self]

/-- What a write of the first `c` bytes leaves old or new, so does the whole write. -/
theorem OldOrNew.of_take {b b' : Bytes 80} {off c : Nat} {v : List Byte} (h : OldOrNew b off (v.take c) b') :
    OldOrNew b off v b' := fun k =>
  (h k).imp_right fun ⟨⟨hoff, hlt⟩, hk⟩ =>
    ⟨⟨hoff, hlt.trans_le (List.length_take_le' ..)⟩, hk.trans List.getElem_take⟩

/-- A write that goes on from where its first `c` bytes have landed leaves each byte of the whole old or new. -/
theorem OldOrNew.of_drop {b b' : Bytes 80} {off c : Nat} {v : List Byte}
    (h : OldOrNew (overlay b off (v.take c)) (off + c) (v.drop c) b') : OldOrNew b off v b' := by
  have hfirst : OldOrNew b off v (overlay b off (v.take c)) :=
    OldOrNew.of_take (oldOrNew_iff_overlay.2 fun _ => .inr rfl)
  rw [oldOrNew_iff_overlay] at hfirst h ⊢
  intro k
  obtain hk | hk := h k
  · rw [hk]
    exact hfirst k
  · exact .inr (by rw [hk, overlay_take_drop])

theorem landedChunk_getElem? (l : BitVec 32) (old : Nat → Byte) {v : List Byte} {k : Nat} (h : k < v.length) :
    (landedChunk l old v)[k]? = some (if l.getLsbD k then v[k] else old k) := by
  rw [landedChunk, List.getElem?_mapIdx, List.getElem?_eq_getElem h, Option.map_some]

theorem landedChunk_length (l : BitVec 32) (old : Nat → Byte) (v : List Byte) :
    (landedChunk l old v).length = v.length := List.length_mapIdx

/-- The part of a chunk that landed in the buffer is new, the rest old. -/
theorem oldOrNew_landed (b : Bytes 80) (off : Nat) (v : List Byte) (l : BitVec 32) :
    OldOrNew b off v (overlay b off (landedChunk l (fun k => (b[off + k]?).getD 0) v)) := by
  intro k
  by_cases h : off ≤ k.val ∧ k.val - off < v.length
  · have hold : (b[off + (k.val - off)]?).getD 0 = b[k] := by
      rw [Nat.add_sub_cancel' h.1, Vector.getElem?_eq_getElem k.isLt, Option.getD_some, Fin.getElem_fin]
    simp only [Fin.getElem_fin (overlay ..), overlay_getElem, if_pos h.1, landedChunk_getElem? l _ h.2, hold,
      Option.getD_some]
    split
    · exact .inr ⟨h, rfl⟩
    · exact .inl rfl
  · exact .inl (overlay_getElem_outside b k.isLt (by rw [landedChunk_length]; omega))

/-- A failed trigger write leaves trigger bytes of which each is old or new, accepted or not (R78, log 9). -/
theorem failedWrite_trigger (s : State) (tr : Trigger) (l : BitVec 32) (a : Bool) :
    ∃ new : Trigger, new.bytes = landedChunk l (fun k => (s.trig.bytes[k]?).getD 0) tr.bytes ∧
      failedWrite s 0x50 tr.bytes l a = if a then acceptTrigger s new else s.withTrig new :=
  ⟨⟨_, _, _, _⟩, rfl, rfl⟩

theorem landed_trigger_getElem? (old tr : Trigger) (l : BitVec 32) {k : Nat} (h : k < 4) :
    (landedChunk l (fun k => (old.bytes[k]?).getD 0) tr.bytes)[k]? = old.bytes[k]? ∨
      (landedChunk l (fun k => (old.bytes[k]?).getD 0) tr.bytes)[k]? = tr.bytes[k]? := by
  have hold : k < old.bytes.length := h
  have hnew : k < tr.bytes.length := h
  rw [landedChunk_getElem? l _ hnew, List.getElem?_eq_getElem hold, List.getElem?_eq_getElem hnew]
  split
  · exact .inr rfl
  · exact .inl rfl

/-- A trigger write of a device that is not busy is let through and accepted (20_memory.md R47). -/
theorem memWrite_trigger {s : State} (hb : s.busy = false) (tr : Trigger) :
    memWrite s 0x50 tr.bytes = .ok (acceptTrigger s tr) := by
  have hw : writeFault s 0x50 tr.bytes.length = none :=
    (writeFault_eq_none_iff ..).2 ⟨hb, Nat.le_add_left 1 3, Nat.le_add_left 4 28, .inr ⟨rfl, rfl⟩⟩
  simp only [memWrite, hw]
  rfl

theorem transportRead_failed {s t : State} {off n : Nat} (h : transportRead s off n = .failed t) : t = s.relink := by
  obtain ⟨k, he, -⟩ | ⟨-, he | he⟩ := transportRead_cases s off n
  · cases h.symm.trans he
  · cases h.symm.trans he
  · cases h.symm.trans he
    rfl

theorem transportWrite_failed {s t : State} {off : Nat} {v : List Byte} (h : transportWrite s off v = .failed t) :
    ∃ u l a, memWrite s off v = .ok u ∧ t = (failedWrite s off v l a).relink := by
  obtain ⟨k, he, -⟩ | ⟨u, -, he⟩ | ⟨u, l, a, hm, he⟩ := transportWrite_cases s off v
  · cases h.symm.trans he
  · cases h.symm.trans he
  · cases h.symm.trans he
    exact ⟨u, l, a, hm, rfl⟩

theorem failedWrite_of_ne (s : State) {off : Nat} (v : List Byte) (l : BitVec 32) (a : Bool) (h : off ≠ 0x50) :
    failedWrite s off v l a =
      s.withBuf (overlay s.buf off (landedChunk l (fun k => (s.buf[off + k]?).getD 0) v)) := if_neg h

/-! ### One chunk of a task -/

/-- A host step that writes a chunk into the buffer of a device that is not busy goes on with the chunk in place, or
ends its call with each byte of the chunk old or new (R75, R77, R78). -/
theorem writeThen_buffer {s : State} {off : Nat} {v : List Byte} (f : State → State) (hb : s.busy = false)
    (ho : off + v.length ≤ 0x50) (h1 : 1 ≤ v.length) (h32 : v.length ≤ 32) :
    writeThen s off v f = .next (f (s.withBuf (overlay s.buf off v)).relink) ∨
      ∃ b, OldOrNew s.buf off v b ∧ writeThen s off v f = .next
        ((s.withBuf b).relink.finish (.error (.transportFailure (.write off v.length)))) := by
  have hm := memWrite_buffer hb ho h1 h32
  obtain ⟨k, -, he⟩ | ⟨u, hu, h | ⟨l, a, h⟩⟩ := writeThen_cases s off v f
  · cases hm.symm.trans he
  · cases hm.symm.trans hu
    exact .inl h
  · rw [failedWrite_of_ne s v l a (by omega)] at h
    exact .inr ⟨_, oldOrNew_landed s.buf off v l, h⟩

/-- The step of a BlockWrite into the buffer: one chunk (R75). -/
theorem hostStep_blockWrite {s : State} {off : Nat} {rest : List Byte} (ht : s.task = .blockWrite off rest) :
    hostStep s = writeThen s off (rest.take (chunk rest.length))
      (blockWriteOn (off + chunk rest.length) (rest.drop (chunk rest.length))) := by
  simp only [hostStep, ht]

theorem hostStep_blockRead {s : State} {off len : Nat} {out : List Byte} {use : ReadUse}
    (ht : s.task = .blockRead off len out use) :
    hostStep s = readThen s (off + out.length) (chunk (len - out.length)) (blockReadOn off len out use) := by
  simp only [hostStep, ht]

/-! ### A BlockWrite into the buffer -/

/-- How a BlockWrite of `data` at `off` that began in `s` may end. -/
def BlockWriteEnd (s : State) (off : Nat) (data : List Byte) (t : State) : Prop :=
  t = { s with task := .idle, returned := t.returned, buf := t.buf, draws := t.draws, link := t.link } ∧
  ((t.returned = s.returned ++ [.written] ∧ t.buf = overlay s.buf off data) ∨
    ((∃ call, t.returned = s.returned ++ [.error (.transportFailure call)]) ∧ OldOrNew s.buf off data t.buf))

/-- How the rest of a BlockWrite ends after its first `c` bytes is an end of the whole. -/
theorem BlockWriteEnd.of_drop {s t : State} {off c : Nat} {data : List Byte} {k : HostTask}
    (h : BlockWriteEnd ((s.withBuf (overlay s.buf off (data.take c))).relink.withTask k) (off + c) (data.drop c) t) :
    BlockWriteEnd s off data t := by
  obtain ⟨hframe, ⟨hret, hbuf⟩ | ⟨hret, hbuf⟩⟩ := h
  · exact ⟨hframe, .inl ⟨hret, hbuf.trans (overlay_take_drop ..)⟩⟩
  · exact ⟨hframe, .inr ⟨hret, OldOrNew.of_drop hbuf⟩⟩

/-- Chunk by chunk: a failed chunk ends the call, and after a delivered one there is less left. -/
theorem blockWrite_runsTo {s : State} {off : Nat} {data : List Byte} (hf : s.fault = none) (hb : s.busy = false)
    (ht : s.task = .blockWrite off data) (hne : data ≠ []) (ho : off + data.length ≤ 0x50) :
    RunsTo s (BlockWriteEnd s off data) := by
  have hc1 := one_le_chunk (List.length_pos_iff.2 hne)
  have hc32 := chunk_le_32 data.length
  have hc := chunk_le data.length
  have hlen : (data.take (chunk data.length)).length = chunk data.length := List.length_take_of_le hc
  have hstep := (step_of_not_busy hf hb).trans (hostStep_blockWrite ht)
  obtain h | ⟨b, hold, h⟩ := writeThen_buffer (off := off) (v := data.take (chunk data.length))
    (blockWriteOn (off + chunk data.length) (data.drop (chunk data.length))) hb (by omega) (by omega) (by omega)
  · refine .of_step (hstep.trans h) ?_
    by_cases hrest : data.drop (chunk data.length) = []
    · rw [hrest, List.take_of_length_le (List.drop_eq_nil_iff.1 hrest)]
      exact .now ⟨rfl, .inl ⟨rfl, rfl⟩⟩
    · rw [blockWriteOn, if_neg (by rwa [List.isEmpty_iff])]
      have hdrop : (data.drop (chunk data.length)).length = data.length - chunk data.length := List.length_drop
      refine .mono (blockWrite_runsTo ?_ ?_ rfl hrest ?_) fun _ => BlockWriteEnd.of_drop
      · exact hf
      · exact hb
      · omega
  · refine .of_step (hstep.trans h) (.now ⟨rfl, .inr ⟨⟨_, rfl⟩, ?_⟩⟩)
    exact hold.of_take
termination_by data.length

/-! ### A BlockRead -/

/-- `out` are bytes of the window, in order from `off` on. -/
def ShowsWindow (s : State) (off : Nat) (out : List Byte) : Prop :=
  ∀ k, k < out.length → out[k]? = s.windowByte (off + k)

/-- A read that goes on where `out` ends gives the next bytes, if none of them is a draw (R47). -/
theorem ShowsWindow.append {s : State} {off n : Nat} {out : List Byte} (h : ShowsWindow s off out)
    (hw : ∀ k, k < out.length + n → (s.windowByte (off + k)).isSome) :
    ShowsWindow s off (out ++ s.readBytes (off + out.length) n) := by
  intro k hk
  rw [List.length_append, readBytes_length] at hk
  by_cases ho : k < out.length
  · rw [List.getElem?_append_left ho, h k ho]
  · obtain ⟨x, hx⟩ := Option.isSome_iff_exists.1 (hw k hk)
    have hoff : off + out.length + (k - out.length) = off + k := by omega
    rw [List.getElem?_append_right (by omega), readBytes_getElem? s _ n _ (by omega), hoff, hx, Option.getD_some]

/-- How a BlockRead of `len` bytes at `off` that began in `s` may end. -/
def BlockReadEnd (s : State) (off len : Nat) (use : ReadUse) (t : State) : Prop :=
  t = { s with task := .idle, returned := t.returned, draws := t.draws, link := t.link } ∧
  ((∃ out, t.returned = s.returned ++ [readResult use out] ∧ out.length = len ∧ ShowsWindow s off out) ∨
    ∃ call, t.returned = s.returned ++ [.error (.transportFailure call)])

/-- What a delivered chunk of a read moves, no byte of the window shows. -/
theorem windowByte_afterRead (s : State) (n : Nat) (k : HostTask) (a : Nat) :
    ((s.spend n).relink.withTask k).windowByte a = s.windowByte a := rfl

theorem showsWindow_afterRead {s : State} {n off : Nat} {k : HostTask} {out : List Byte} :
    ShowsWindow ((s.spend n).relink.withTask k) off out ↔ ShowsWindow s off out := by
  simp only [ShowsWindow, windowByte_afterRead]

/-- How the rest of a BlockRead ends after a delivered chunk is an end of the whole. -/
theorem BlockReadEnd.of_afterRead {s t : State} {n off len : Nat} {k : HostTask} {use : ReadUse}
    (h : BlockReadEnd ((s.spend n).relink.withTask k) off len use t) : BlockReadEnd s off len use t := by
  obtain ⟨hframe, hend⟩ := h
  refine ⟨hframe, hend.imp_left ?_⟩
  rintro ⟨out, hret, hlen, hout⟩
  exact ⟨out, hret, hlen, showsWindow_afterRead.1 hout⟩

/-- Chunk by chunk: a failed chunk ends the call, and after a delivered one there is less left to read. -/
theorem blockRead_runsTo {s : State} {off len : Nat} {out : List Byte} {use : ReadUse} (hf : s.fault = none)
    (hb : s.busy = false) (ht : s.task = .blockRead off len out use) (hlt : out.length < len) (ho : off + len ≤ 0x100)
    (hw : ∀ k, k < len → (s.windowByte (off + k)).isSome) (hout : ShowsWindow s off out) :
    RunsTo s (BlockReadEnd s off len use) := by
  have hc1 := one_le_chunk (Nat.sub_pos_of_lt hlt)
  have hc32 := chunk_le_32 (len - out.length)
  have hc := chunk_le (len - out.length)
  have hstep := (step_of_not_busy hf hb).trans (hostStep_blockRead ht)
  obtain ⟨k, -, hk⟩ | ⟨-, h | h⟩ :=
    readThen_cases s (off + out.length) (chunk (len - out.length)) (blockReadOn off len out use)
  · exact absurd ⟨by omega, hc1, hc32⟩ hk
  · refine .of_step (hstep.trans h) ?_
    have happ := hout.append (n := chunk (len - out.length)) fun k hk => hw k (by omega)
    have hlen : (out ++ s.readBytes (off + out.length) (chunk (len - out.length))).length =
        out.length + chunk (len - out.length) := by
      rw [List.length_append, readBytes_length]
    rw [blockReadOn]
    split
    · exact .now ⟨rfl, .inl ⟨_, rfl, by omega, happ⟩⟩
    · refine .mono (blockRead_runsTo ?_ ?_ rfl ?_ ho ?_ ?_) fun _ => BlockReadEnd.of_afterRead
      · exact hf
      · exact hb
      · omega
      · simpa only [windowByte_afterRead] using hw
      · exact showsWindow_afterRead.2 happ
  · exact .of_step (hstep.trans h) (.now ⟨rfl, .inr ⟨_, rfl⟩⟩)
termination_by len - out.length

/-! ### The obligations -/

/-- Settles O34: of a chunk that fails, what landed is new and the rest old; the trigger may be accepted with that. -/
theorem failedWriteLeavesOldOrNewBytes : Obligations.FailedWriteLeavesOldOrNewBytes := by
  intro s t off v h
  obtain ⟨u, l, a, hm, rfl⟩ := transportWrite_failed h
  refine ⟨fun hne => ?_, ?_⟩
  · rw [failedWrite_of_ne s v l a hne]
    exact ⟨oldOrNew_landed s.buf off v l, rfl⟩
  · rintro rfl
    obtain ⟨hb, ⟨tr, -, rfl, -⟩ | ⟨hlen, h1, -⟩⟩ := memWrite_cases hm
    · obtain ⟨new, hnew, hw⟩ := failedWrite_trigger s tr l a
      rw [hw]
      have hbytes : ∀ k, k < 4 → new.bytes[k]? = s.trig.bytes[k]? ∨ new.bytes[k]? = tr.bytes[k]? :=
        fun k hk => hnew ▸ landed_trigger_getElem? s.trig tr l hk
      cases a with
      | false => exact ⟨hbytes, .inl rfl⟩
      | true => exact ⟨hbytes, .inr ⟨_, memWrite_trigger hb new, rfl⟩⟩
    · omega

/-- Settles O36: from a device that is not busy the host's steps write the chunks one after the other. -/
theorem blockWriteEndsWrittenOrFailed : Obligations.BlockWriteEndsWrittenOrFailed :=
  fun s _ _ hf hp ht hne ho => blockWrite_runsTo hf ((busy_eq_false_iff s).2 hp) ht hne ho

/-- Settles O37: from a device that is not busy the host's steps read the chunks one after the other. -/
theorem blockReadReturnsTheWindowOrFails : Obligations.BlockReadReturnsTheWindowOrFails := by
  intro s off len hf hp ht h1 ho hw
  refine (blockRead_runsTo hf ((busy_eq_false_iff s).2 hp) ht h1 ho hw fun _ hk => nomatch hk).mono ?_
  rintro t ⟨hframe, hend⟩
  refine ⟨hframe, hend.imp_left ?_⟩
  rintro ⟨out, hret, rfl, hout⟩
  exact ⟨out, hret, rfl, hout⟩

/-- Settles O35: a failed read only draws the transport's next outcome, which no byte of the window shows. -/
theorem failedReadLeavesTheDevice : Obligations.FailedReadLeavesTheDevice := by
  intro s t off n h
  obtain rfl := transportRead_failed h
  exact ⟨rfl, fun _ => rfl⟩

end Sys2Proof.Machine
end

section
/-!
PROOFS. 41_command_protocol.md: what a host step makes of the task under way, and the invariant of every run.
-/

namespace Sys2Proof.Machine

open Sys2Proof

-- One declaration at a time, within the memory the check allows beside the tests.
set_option Elab.async false

/-! ### What a read leaves -/

/-- `t` is `s` but for the host's task and results, and the model's draws: all that a read can change (R48). -/
def AfterReads (s t : State) : Prop :=
  t = { s with task := t.task, returned := t.returned, draws := t.draws, link := t.link }

theorem AfterReads.trans {s t u : State} (h : AfterReads s t) (k : AfterReads t u) : AfterReads s u :=
  Eq.trans k (by rw [h])

theorem AfterReads.sameDevice {s t : State} (h : AfterReads s t) : SameDevice s t := by
  rw [h]
  exact ⟨rfl, rfl, rfl, rfl, rfl, rfl, rfl, rfl, rfl, rfl, rfl, rfl, rfl, rfl, rfl, rfl, rfl, rfl, rfl⟩

theorem AfterReads.calls {s t : State} (h : AfterReads s t) : t.calls = s.calls := by rw [h]

theorem AfterReads.deviceDelay {s t : State} (h : AfterReads s t) : t.deviceDelay = s.deviceDelay := by
  rw [h]

/-! ### How a task goes on -/

/-- The tasks of a host that only reads, as `State.onlyReads` lists them (R152). -/
def HostTask.Reads : HostTask → Prop
  | .idle | .blockRead _ _ _ _ | .poll _ _ | .response _ _ _ _ => True
  | .rawRead _ _ | .rawWrite _ _ | .blockWrite _ _ | .payload _ _ _ | .trigger _ => False

theorem onlyReads_iff (s : State) : s.onlyReads ↔ s.calls = [] ∧ s.task.Reads := Iff.rfl

/-- From `s` the host's call ends, or it goes on with a task of `Q`. -/
inductive GoesOn (Q : HostTask → Prop) (s : State) : State → Prop where
  | finish (r : HostReturn) : GoesOn Q s (s.finish r)
  | withTask {k : HostTask} (hk : Q k) : GoesOn Q s (s.withTask k)

theorem GoesOn.task {Q : HostTask → Prop} {s t : State} (h : GoesOn Q s t) (hidle : Q .idle) : Q t.task := by
  cases h with
  | finish r => exact hidle
  | withTask hk => exact hk

theorem GoesOn.afterReads {Q : HostTask → Prop} {s t : State} (h : GoesOn Q s t) : AfterReads s t := by
  cases h <;> exact Eq.refl _

/-- A host step that reads has read only, and then its call ends or goes on. -/
theorem readThen_goesOn {Q : HostTask → Prop} {s t : State} {off n : Nat} {f : State → List Byte → State}
    (hf : ∀ u bytes, bytes.length = n → GoesOn Q u (f u bytes)) (h : readThen s off n f = .next t) :
    ∃ u, AfterReads s u ∧ GoesOn Q u t := by
  obtain ⟨k, he, -⟩ | ⟨-, he | he⟩ := readThen_cases s off n f
  · cases h.symm.trans he
  · cases h.symm.trans he
    exact ⟨_, Eq.refl ((s.spend n).relink), hf _ _ (readBytes_length ..)⟩
  · cases h.symm.trans he
    exact ⟨s.relink, Eq.refl s.relink, .finish _⟩

theorem writeThen_goesOn {Q : HostTask → Prop} {s t : State} {off : Nat} {v : List Byte} {f : State → State}
    (hf : ∀ u, GoesOn Q u (f u)) (h : writeThen s off v f = .next t) : ∃ u, GoesOn Q u t := by
  obtain ⟨k, he, -⟩ | ⟨u, -, he | ⟨l, a, he⟩⟩ := writeThen_cases s off v f
  · cases h.symm.trans he
  · cases h.symm.trans he
    exact ⟨_, hf _⟩
  · cases h.symm.trans he
    exact ⟨_, .finish _⟩

/-- A read inside the window, of an admissible size, raises no fault (R46, R47). -/
theorem readThen_exists_next (s : State) {off n : Nat} (f : State → List Byte → State)
    (hb : off + n ≤ 0x100 ∧ 1 ≤ n ∧ n ≤ 32) : ∃ t, readThen s off n f = .next t := by
  obtain ⟨k, -, hk⟩ | ⟨-, h | h⟩ := readThen_cases s off n f
  · exact absurd hb hk
  · exact ⟨_, h⟩
  · exact ⟨_, h⟩

section

variable (u : State) (bytes rest : List Byte)

theorem blockReadOn_goesOn {off len : Nat} (out : List Byte) (use : ReadUse) (hlen : off + len ≤ 0x100) :
    GoesOn (fun k => TaskOk k ∧ k.Reads) u (blockReadOn off len out use u bytes) := by
  unfold blockReadOn
  split_ifs with h
  · exact .finish _
  · exact .withTask ⟨⟨Nat.lt_of_not_le h, hlen⟩, trivial⟩

theorem pollOn_goesOn (polls : Nat) {x : Execute} (hr : x.responseLength ≤ 80) (h4 : bytes.length = 4) :
    GoesOn (fun k => TaskOk k ∧ k.Reads) u (pollOn polls x u bytes) := by
  match bytes, h4 with
  | [status0, status1, _, _], _ =>
    simp only [pollOn]
    split_ifs with hbusy hlimit h0
    · exact .finish _
    · exact .withTask ⟨hr, trivial⟩
    · exact .finish _
    · exact .withTask ⟨⟨Nat.pos_of_ne_zero h0, hr⟩, trivial⟩

theorem responseOn_goesOn (status0 status1 : Byte) (out : List Byte) {x : Execute} (hr : x.responseLength ≤ 80) :
    GoesOn (fun k => TaskOk k ∧ k.Reads) u (responseOn status0 status1 out x u bytes) := by
  unfold responseOn
  split_ifs with h
  · exact .finish _
  · exact .withTask ⟨⟨Nat.lt_of_not_le h, hr⟩, trivial⟩

theorem blockWriteOn_goesOn {off : Nat} (hlen : off + rest.length ≤ 0x100) :
    GoesOn TaskOk u (blockWriteOn off rest u) := by
  unfold blockWriteOn
  split_ifs with h
  · exact .finish _
  · exact .withTask ⟨mt List.isEmpty_iff.2 h, hlen⟩

theorem payloadOn_goesOn {off : Nat} {x : Execute} (hlen : off + rest.length ≤ 80) (hr : x.responseLength ≤ 80) :
    GoesOn TaskOk u (payloadOn off rest x u) := by
  unfold payloadOn
  split_ifs with h
  · exact .withTask hr
  · exact .withTask ⟨mt List.isEmpty_iff.2 h, hlen, hr⟩

end

theorem startFrame_goesOn (s : State) (x : Execute) : GoesOn TaskOk s (startFrame s x) := by
  unfold startFrame frameError
  by_cases hp : 80 < x.payload.length
  · rw [if_pos hp]
    exact .finish _
  by_cases hr : 80 < x.responseLength
  · rw [if_neg hp, if_pos hr]
    exact .finish _
  rw [if_neg hp, if_neg hr]
  dsimp only
  split_ifs with hempty
  · exact .withTask (Nat.le_of_not_lt hr)
  · exact .withTask ⟨mt List.isEmpty_iff.2 hempty, by omega, Nat.le_of_not_lt hr⟩

/-- A call taken up ends at once, or its first transfers lie where its checks allow (R74, R75, R88). -/
theorem startPlan_goesOn {s t : State} {p : HostPlan} (h : startPlan s p = .next t) : GoesOn TaskOk s t := by
  cases p with
  | rawRead off n => cases h; exact .withTask trivial
  | rawWrite off v => cases h; exact .withTask trivial
  | read off len use =>
    simp only [startPlan] at h
    split_ifs at h with hout h0
    · cases h
    · cases h; exact .finish _
    · cases h; exact .withTask ⟨Nat.pos_of_ne_zero h0, Nat.le_of_not_lt hout⟩
  | write off v =>
    simp only [startPlan] at h
    split_ifs at h with hout h0
    · cases h
    · cases h; exact .finish _
    · cases h; exact .withTask ⟨mt List.isEmpty_iff.2 h0, Nat.le_of_not_lt hout⟩
  | frame x => cases h; exact startFrame_goesOn s x

theorem startCall_goesOn {s t : State} {c : HostCall} (h : startCall s c = .next t) : GoesOn TaskOk s t := by
  unfold startCall at h
  split at h
  · cases h; exact .finish _
  · exact startPlan_goesOn h

/-- The step of a host that only reads and has a task: one read, after which it still only reads. -/
theorem hostStep_of_reads {s : State} (hr : s.task.Reads) (hne : s.task ≠ .idle) (hok : TaskOk s.task) :
    ∃ t u, hostStep s = .next t ∧ AfterReads s u ∧ GoesOn (fun k => TaskOk k ∧ k.Reads) u t := by
  suffices ∃ off n f, hostStep s = readThen s off n f ∧ (off + n ≤ 0x100 ∧ 1 ≤ n ∧ n ≤ 32) ∧
      ∀ u bytes, bytes.length = n → GoesOn (fun k => TaskOk k ∧ k.Reads) u (f u bytes) by
    obtain ⟨off, n, f, hstep, hb, hf⟩ := this
    obtain ⟨t, ht⟩ := readThen_exists_next s f hb
    obtain ⟨u, hu, hgo⟩ := readThen_goesOn hf ht
    exact ⟨t, u, hstep.trans ht, hu, hgo⟩
  cases ht : s.task with
  | idle => exact absurd ht hne
  | blockRead off len out use =>
    rw [ht] at hok
    obtain ⟨hlt, hlen⟩ := hok
    have h1 := one_le_chunk (Nat.sub_pos_of_lt hlt)
    have hc := chunk_le (len - out.length)
    exact ⟨_, _, _, hostStep_blockRead ht, ⟨by omega, h1, chunk_le_32 _⟩,
      fun u bytes _ => blockReadOn_goesOn u bytes out use hlen⟩
  | poll polls x =>
    rw [ht] at hok
    exact ⟨0x54, 4, pollOn (polls + 1) x, by simp only [hostStep, ht], by decide,
      fun u bytes h4 => pollOn_goesOn u bytes _ hok h4⟩
  | response a b out x =>
    rw [ht] at hok
    obtain ⟨hlt, hlen⟩ := hok
    have h1 := one_le_chunk (Nat.sub_pos_of_lt hlt)
    have hc := chunk_le (x.responseLength - out.length)
    exact ⟨out.length, _, responseOn a b out x, by simp only [hostStep, ht], ⟨by omega, h1, chunk_le_32 _⟩,
      fun u bytes _ => responseOn_goesOn u bytes a b out hlen⟩
  | _ => rw [ht] at hr; exact hr.elim

/-- A host step keeps the chunks still to come where their call put them (R74, R75, R88). -/
theorem hostStep_taskOk {s t : State} (hok : TaskOk s.task) (h : hostStep s = .next t) : TaskOk t.task := by
  have hreads : s.task.Reads → s.task ≠ .idle → TaskOk t.task := fun hr hne => by
    obtain ⟨t', u, ht, -, hgo⟩ := hostStep_of_reads hr hne hok
    cases h.symm.trans ht
    exact (hgo.task ⟨trivial, trivial⟩).1
  have hwrites : (∃ u, GoesOn TaskOk u t) → TaskOk t.task := fun ⟨_, hgo⟩ => hgo.task trivial
  cases ht : s.task with
  | idle =>
    simp only [hostStep, ht, hostIdle] at h
    split at h
    · cases h; rwa [ht] at hok ⊢
    · exact (startCall_goesOn h).task trivial
  | rawRead off n =>
    simp only [hostStep, ht] at h
    obtain ⟨u, -, hgo⟩ := readThen_goesOn (Q := TaskOk) (fun _ _ _ => .finish _) h
    exact hgo.task trivial
  | rawWrite off v =>
    simp only [hostStep, ht] at h
    exact hwrites (writeThen_goesOn (fun _ => .finish _) h)
  | blockWrite off rest =>
    rw [ht] at hok
    have hc := chunk_le rest.length
    have hdrop : (rest.drop (chunk rest.length)).length = rest.length - chunk rest.length := List.length_drop
    obtain ⟨-, hlen⟩ := hok
    rw [hostStep_blockWrite ht] at h
    exact hwrites (writeThen_goesOn (fun u => blockWriteOn_goesOn u _ (by omega)) h)
  | payload off rest x =>
    rw [ht] at hok
    have hc := chunk_le rest.length
    have hdrop : (rest.drop (chunk rest.length)).length = rest.length - chunk rest.length := List.length_drop
    obtain ⟨-, hlen, hr⟩ := hok
    simp only [hostStep, ht] at h
    exact hwrites (writeThen_goesOn (fun u => payloadOn_goesOn u _ (by omega) hr) h)
  | trigger x =>
    rw [ht] at hok
    simp only [hostStep, ht] at h
    exact hwrites (writeThen_goesOn (fun _ => .withTask (k := .poll 0 x) hok) h)
  | _ => exact hreads (by rw [ht]; trivial) (by rw [ht]; exact nofun)

/-! ### The device beside the host -/

/-- No host write has an effect while a command is busy, so no host step changes the device (R86). -/
theorem hostStep_of_busy {s t : State} (hb : s.busy = true) (h : hostStep s = .next t) : SameDevice s t := by
  obtain hd | ⟨u, ⟨hq, -⟩, -⟩ := hostStep_device h
  · exact hd
  · cases hb.symm.trans hq

theorem SameDevice.latchOk {s t : State} (h : SameDevice s t) (hl : LatchOk s) : LatchOk t := by
  rw [LatchOk, h.lcmd]
  exact hl

theorem SameDevice.phaseOk {s t : State} (h : SameDevice s t) (hp : PhaseOk s) : PhaseOk t := by
  rw [PhaseOk, h.phase, h.st0, h.st1, h.lcmd, h.staleStatusWindow]
  exact hp

theorem WriteEffect.latchOk {s u : State} (h : WriteEffect s u) (hl : LatchOk s) : LatchOk u := by
  obtain ⟨-, rfl | ⟨tr, rfl⟩ | ⟨tr, rfl⟩ | ⟨b, rfl⟩⟩ := h <;> exact hl

/-- An accepted trigger shows busy at once, unless `stale_status_window` (R80, R81). -/
theorem phaseOk_acceptTrigger (s : State) (tr : Trigger) : PhaseOk (acceptTrigger s tr) := fun hs => by
  rw [acceptTrigger_st0, if_neg (by rw [← acceptTrigger_staleStatusWindow s tr, hs]; exact Bool.false_ne_true)]

theorem WriteEffect.phaseOk {s u : State} (h : WriteEffect s u) (hp : PhaseOk s) : PhaseOk u := by
  obtain ⟨-, rfl | ⟨tr, rfl⟩ | ⟨tr, rfl⟩ | ⟨b, rfl⟩⟩ := h
  · exact hp
  · exact phaseOk_acceptTrigger s tr
  · exact hp
  · exact hp

theorem WriteEffect.fault {s u : State} (h : WriteEffect s u) : u.fault = s.fault := by
  obtain ⟨-, rfl | ⟨tr, rfl⟩ | ⟨tr, rfl⟩ | ⟨b, rfl⟩⟩ := h <;> rfl

theorem hostStep_inv {s t : State} (hi : s.Inv) (h : hostStep s = .next t) : t.Inv := by
  have htask := hostStep_taskOk hi.task h
  obtain hd | ⟨u, hw, hd⟩ := hostStep_device h
  · exact ⟨hd.fault.trans hi.noFault, hd.latchOk hi.latch, hd.phaseOk hi.phase, htask⟩
  · exact ⟨hd.fault.trans (hw.fault.trans hi.noFault), hd.latchOk (hw.latchOk hi.latch),
      hd.phaseOk (hw.phaseOk hi.phase), htask⟩

/-- A valid command's payload fits the buffer (30_encoding.md R62, R66). -/
theorem payloadLength_le_80 {i : Instr} (h : i.wellFormed = true) : payloadLength i ≤ 80 := by
  cases i with
  | nop a b c => exact (Laws.PayloadFits.nop a b c h).1
  | extend i n c => exact (Laws.PayloadFits.extend i n c h).1
  | quote m n c => exact (Laws.PayloadFits.quote m n c h).1
  | increment i a c => exact (Laws.PayloadFits.increment i a c h).1
  | hkdf n b c => exact (Laws.PayloadFits.hkdf n b c h).1

theorem latchCommand_inv {s : State} {i : Instr} (hi : s.Inv) (hd : decode s.trig = .ok i) (hw : i.wellFormed = true) :
    (latchCommand s i).Inv where
  noFault := hi.noFault
  latch := by
    intro c hc
    cases hc
    exact ⟨i, hd, hw, by rw [List.length_take, Vector.length_toList]; exact Nat.min_eq_left (payloadLength_le_80 hw)⟩
  phase := ⟨rfl, Option.some_ne_none _⟩
  task := hi.task

theorem exec_inv {s t : State} {i : Instr} (hi : s.Inv) (h : exec i s = .next t) : t.Inv := by
  obtain ⟨u, r, rfl, hu⟩ := exec_next h
  obtain rfl | ⟨k, v, rfl⟩ | ⟨k, v, rfl⟩ := hu
  · exact ⟨hi.noFault, hi.latch, rfl, hi.task⟩
  · exact ⟨hi.noFault, hi.latch, rfl, hi.task⟩
  · exact ⟨hi.noFault, hi.latch, rfl, hi.task⟩

theorem tick_inv {s : State} (hi : s.Inv) : s.tick.Inv := ⟨hi.noFault, hi.latch, hi.phase, hi.task⟩

/-- Settles O46: a host step, ACCEPT and COMPLETE each keep the invariant. -/
theorem everyStepKeepsTheInvariant : Obligations.EveryStepKeepsTheInvariant := by
  intro s t hi h
  obtain ⟨-, ⟨-, hh⟩ | ⟨-, -, i, hd, hw, rfl⟩ | ⟨-, -, c, i, -, -, he⟩⟩ := step_next h
  · exact hostStep_inv (tick_inv hi) hh
  · exact latchCommand_inv hi hd hw
  · exact exec_inv hi he

end Sys2Proof.Machine
end

section
/-!
PROOFS. 41_command_protocol.md: the command life cycle, from the trigger to Completed.
-/

namespace Sys2Proof.Machine

open Sys2Proof

-- One declaration at a time, within the memory the check allows beside the tests.
set_option Elab.async false

/-! ### Which step the device takes -/

/-- The device's step in Executing. -/
theorem step_of_executing {s : State} {c : LatchedCommand} {i : Instr} (hf : s.fault = none) (hd : s.deviceTurn = true)
    (hp : s.phase = .executing) (hc : s.lcmd = some c) (hi : decode c.trigger = .ok i) : step s = exec i s := by
  simp only [step, nextMove, hf, hd, deviceMove, hp, fetchLatched, hc, hi, if_true]

theorem acceptCommand_of_valid {s : State} {i : Instr} (hd : decode s.trig = .ok i) (hw : i.wellFormed = true) :
    acceptCommand s = .next (latchCommand s i) := by
  simp only [acceptCommand, hd, hw, if_true]

/-- A valid command completes (42_commands.md R94). -/
theorem exec_of_wellFormed {i : Instr} (h : i.wellFormed = true) (s : State) : ∃ t, exec i s = .next t := by
  cases i with
  | nop a b c => exact ⟨_, rfl⟩
  | extend i n c =>
    simp only [Instr.wellFormed, Bool.and_eq_true, decide_eq_true_eq] at h
    obtain ⟨hi, -, he⟩ | ⟨hn, -⟩ := execExtend_cases i n s
    · exact ⟨_, he⟩
    · exact absurd ⟨Nat.lt_succ_of_le h.1, h.2⟩ hn
  | quote m n c =>
    obtain ⟨-, he⟩ | ⟨hn, -⟩ := execQuote_cases m n s
    · exact ⟨_, he⟩
    · exact absurd (of_decide_eq_true h) hn
  | increment i a c =>
    simp only [Instr.wellFormed, Bool.and_eq_true, decide_eq_true_eq] at h
    obtain ⟨hi, -, he⟩ | ⟨hn, -⟩ := execIncrement_cases i a s
    · exact ⟨_, he⟩
    · exact absurd ⟨Nat.lt_succ_of_le h.1, h.2⟩ hn
  | hkdf n b c =>
    obtain ⟨-, he⟩ | ⟨hn, -⟩ := execHkdf_cases n s
    · exact ⟨_, he⟩
    · exact absurd (of_decide_eq_true h) hn

/-! ### Writes of a busy device -/

theorem writeThen_of_memWrite {s : State} {off : Nat} {v : List Byte} {k : Fault} (f : State → State)
    (h : memWrite s off v = .error k) : writeThen s off v f = .fault k := by
  simp only [writeThen, transportWrite, h]
  rfl

theorem writeThen_of_busy {s : State} {off : Nat} {v : List Byte} (f : State → State) (hb : s.busy = true)
    (ht : off + v.length ≤ 0x100 ∧ 1 ≤ v.length ∧ v.length ≤ 32) :
    writeThen s off v f = .fault .writeWhileBusy :=
  writeThen_of_memWrite f (memWrite_of_writeFault (writeFault_of_busy ((transferFault_eq_none_iff ..).2 ht) hb))

/-- The first chunk of what is left to write is a transfer of admissible bounds and size (R46, R75). -/
theorem chunk_transfer {off : Nat} {rest : List Byte} (hne : rest ≠ []) (hlen : off + rest.length ≤ 0x100) :
    off + (rest.take (chunk rest.length)).length ≤ 0x100 ∧ 1 ≤ (rest.take (chunk rest.length)).length ∧
      (rest.take (chunk rest.length)).length ≤ 32 := by
  have hc := chunk_le rest.length
  rw [List.length_take_of_le hc]
  exact ⟨by omega, one_le_chunk (List.length_pos_iff.2 hne), chunk_le_32 _⟩

/-! ### From acceptance to completion -/

/-- A state from which the device completes a command: it is busy, with a valid command, and the host only reads. -/
structure State.Waits (s : State) : Prop where
  inv : s.Inv
  busy : s.busy = true
  valid : s.pendingValid
  reads : s.onlyReads

/-- While the device waits for the host's steps, the host has a task, and steps to take before the device's. -/
theorem State.Waits.hostTurn {s : State} (h : s.Waits) (hd : s.deviceTurn = false) :
    s.task ≠ .idle ∧ s.deviceDelay ≠ 0 := by
  simp only [State.deviceTurn, h.busy, Bool.true_and, Bool.or_eq_false_iff, decide_eq_false_iff_not] at hd
  refine ⟨fun ht => ?_, hd.1⟩
  have hquiet : s.hostQuiet = true := by simp only [State.hostQuiet, ht, h.reads.1]
  exact absurd hquiet (by rw [hd.2]; exact Bool.false_ne_true)

/-- The next step of a waiting state: a host step nearer to the device's turn, ACCEPT, or COMPLETE. -/
theorem State.Waits.step {s : State} (h : s.Waits) :
    ∃ t, Machine.step s = .next t ∧ (t.phase = .completed ∨ t.Waits ∧
      (t.phase = s.phase ∧ t.deviceDelay < s.deviceDelay ∨ s.phase = .commandPending ∧ t.phase = .executing)) := by
  obtain ⟨hinv, hb, hv, hr⟩ := h
  cases hd : s.deviceTurn with
  | false =>
    obtain ⟨hne, hdelay⟩ := State.Waits.hostTurn ⟨hinv, hb, hv, hr⟩ hd
    obtain ⟨t, u, hstep, hu, hgo⟩ := hostStep_of_reads (s := s.tick) hr.2 hne hinv.task
    have htick : AfterReads s.tick t := hu.trans hgo.afterReads
    have hp : t.phase = s.phase := htick.sameDevice.phase
    have hdl : t.deviceDelay = s.deviceDelay - 1 := htick.deviceDelay.trans (by rw [State.tick_deviceDelay, if_pos hb])
    have ht := (step_of_host hinv.noFault hd).trans hstep
    refine ⟨t, ht, .inr ⟨⟨everyStepKeepsTheInvariant s t hinv ht, busy_congr hp ▸ hb, ?_, ?_⟩, .inl ⟨hp, by omega⟩⟩⟩
    · rw [State.pendingValid, hp, htick.sameDevice.trig]
      exact hv
    · exact (onlyReads_iff t).2 ⟨htick.calls.trans hr.1, (hgo.task ⟨trivial, trivial⟩).2⟩
  | true =>
    obtain hp | hp := (busy_eq_true_iff s).1 hb
    · obtain ⟨i, hi, hw⟩ := (wellFormedCommandsAreTheValidTriggers s.trig).2 (hv hp)
      have ht := (step_of_pending hinv.noFault hd hp).trans (acceptCommand_of_valid hi hw)
      exact ⟨_, ht, .inr ⟨⟨everyStepKeepsTheInvariant _ _ hinv ht, rfl, nofun, hr⟩, .inr ⟨hp, rfl⟩⟩⟩
    · have hphase := hinv.phase
      rw [PhaseOk, hp] at hphase
      obtain ⟨c, hc⟩ := Option.ne_none_iff_exists'.1 hphase.2
      obtain ⟨i, hi, hw, -⟩ := hinv.latch c hc
      obtain ⟨t, ht⟩ := exec_of_wellFormed hw s
      exact ⟨t, (step_of_executing hinv.noFault hd hp hc hi).trans ht, .inl (exec_phase ht)⟩

/-- How many of the device's two steps are still to come after the next. -/
def Phase.ahead : Phase → Nat
  | .commandPending => 1
  | .idle | .executing | .completed => 0

/-- A waiting state runs to Completed (R87), and what every step of a waiting state keeps holds there. -/
theorem waits_runsTo_completed {P : State → Prop} (hkeep : ∀ {s t}, s.Waits → P s → step s = .next t → P t)
    {s : State} (h : s.Waits) (hP : P s) : RunsTo s fun t => t.phase = .completed ∧ P t := by
  obtain ⟨t, hstep, hc | ⟨ht, hless⟩⟩ := h.step
  · exact .of_step hstep (.now ⟨hc, hkeep h hP hstep⟩)
  · exact .of_step hstep (waits_runsTo_completed hkeep ht (hkeep h hP hstep))
termination_by (s.phase.ahead, s.deviceDelay)
decreasing_by
  rw [Prod.lex_iff]
  obtain ⟨hp, hlt⟩ | ⟨hs, ht⟩ := hless
  · exact .inr ⟨by rw [hp], hlt⟩
  · exact .inl (by rw [hs, ht]; exact Nat.zero_lt_one)

/-! ### The obligations -/

/-- Settles O43: ACCEPT is `latchCommand`. -/
theorem acceptLatchesAValidCommand : Obligations.AcceptLatchesAValidCommand := fun s _ hf hp hd hi hw =>
  ⟨s.free 0, Config.freeDelay s.unit s.draws, (step_of_pending hf hd hp).trans (acceptCommand_of_valid hi hw)⟩

/-- Settles O45: the host's turn is a write of admissible bounds and size in each case, and the device is busy. -/
theorem writesWhileBusyFault : Obligations.WritesWhileBusyFault := by
  intro s hp hf hd hw
  have hb : s.tick.busy = true := (busy_eq_true_iff s).2 hp
  rw [step_of_host hf hd]
  cases ht : s.task with
  | rawWrite off v =>
    rw [ht] at hw
    simp only [hostStep, State.tick_task, ht]
    exact writeThen_of_busy _ hb hw
  | blockWrite off rest =>
    rw [ht] at hw
    rw [hostStep_blockWrite (s := s.tick) ht]
    exact writeThen_of_busy _ hb (chunk_transfer hw.1 hw.2)
  | payload off rest x =>
    rw [ht] at hw
    simp only [hostStep, State.tick_task, ht]
    exact writeThen_of_busy _ hb (chunk_transfer hw.1 (hw.2.trans (by decide)))
  | trigger x =>
    simp only [hostStep, State.tick_task, ht]
    exact writeThen_of_busy _ hb (by simp)
  | _ => rw [ht] at hw; exact hw.elim

/-- Settles O55: each step of the waiting device or its host brings the completion nearer. -/
theorem acceptedCommandsComplete : Obligations.AcceptedCommandsComplete := fun _ hi hb hv hr =>
  (waits_runsTo_completed (P := fun _ => True) (fun _ _ _ => trivial) ⟨hi, hb, hv, hr⟩ trivial).mono fun _ h => h.1

/-- Settles O30: the write is let through and accepts the trigger. -/
theorem triggerWriteStartsTheCommand : Obligations.TriggerWriteStartsTheCommand := fun s a0 a1 a2 op hp =>
  ⟨s.free 0, Config.freeDelay s.unit s.draws, memWrite_trigger ((busy_eq_false_iff s).2 hp) ⟨a0, a1, a2, op⟩⟩

/-- Settles O39: `frameResult` compares the pair with the success pair. -/
theorem checkedFramingFailsOnAnyOtherPair : Obligations.CheckedFramingFailsOnAnyOtherPair := by
  intro x s0 s1 resp hx
  simp only [frameResult, hx]
  exact ⟨fun h => if_pos h, fun h => if_neg h⟩

/-- Settles O41: the device's step in Executing. -/
theorem stepRunsTheLatchedCommand : Obligations.StepRunsTheLatchedCommand :=
  fun _ _ _ hf hp hd hc hi _ => step_of_executing hf hd hp hc hi

end Sys2Proof.Machine
end

section
/-!
PROOFS. 41_command_protocol.md R88, R89: the steps of `execute`, and the framed call as a whole.
-/

namespace Sys2Proof.Machine

open Sys2Proof

-- One declaration at a time, within the memory the check allows beside the tests.
set_option Elab.async false

/-! ### Runs -/

theorem RunsTo.trans {s : State} {P Q : State → Prop} (k : RunsTo s P) (h : ∀ t, P t → RunsTo t Q) : RunsTo s Q := by
  obtain ⟨m, t, hm, hP⟩ := k
  obtain ⟨n, u, hn, hQ⟩ := h t hP
  exact ⟨m + n, u, core_run_trans hm hn, hQ⟩

theorem core_run_inv {n : Nat} {s t : State} (hi : s.Inv) (h : core.run n s = .next t) : t.Inv := by
  induction n generalizing s with
  | zero => cases h; exact hi
  | succ n ih =>
    cases hs : step s with
    | next u => exact ih (everyStepKeepsTheInvariant s u hi hs) ((core_run_of_step hs n).symm.trans h)
    | fault k => simp only [Host.Core.run, show core.step s = .fault k from hs] at h; cases h
    | refused r => simp only [Host.Core.run, show core.step s = .refused r from hs] at h; cases h

/-- A run from a state of the invariant ends in one. -/
theorem RunsTo.inv {s : State} {P : State → Prop} (k : RunsTo s P) (hi : s.Inv) : RunsTo s fun t => t.Inv ∧ P t := by
  obtain ⟨n, t, hr, hP⟩ := k
  exact ⟨n, t, hr, core_run_inv hi hr, hP⟩

/-! ### Bytes in the buffer -/

theorem overlay_nil (b : Bytes 80) (off : Nat) : overlay b off [] = b := by
  apply Vector.ext
  intro k hk
  exact overlay_getElem_outside b hk (by rw [List.length_nil]; omega)

/-- A payload stands at the start of the buffer it is written to (R83). -/
theorem overlay_take (b : Bytes 80) {v : List Byte} (h : v.length ≤ 80) :
    (overlay b 0 v).toList.take v.length = v := by
  apply List.ext_getElem
  · rw [List.length_take, Vector.length_toList, Nat.min_eq_left h]
  · intro k _ hk
    rw [List.getElem_take, Vector.getElem_toList, overlay_getElem_inside b (by omega) ⟨Nat.zero_le k, hk⟩]
    rfl

/-- A read in the buffer of a device that is not busy returns the buffer's bytes (R47). -/
theorem readBytes_buffer {s : State} (hb : s.busy = false) {off n : Nat} (h : off + n ≤ 80) :
    s.readBytes off n = (s.buf.toList.drop off).take n := by
  apply List.ext_getElem
  · rw [readBytes_length, List.length_take, List.length_drop, Vector.length_toList]
    omega
  · intro k hk _
    rw [readBytes_length] at hk
    have hbyte : s.windowByte (off + k) = some s.buf[off + k] := by
      rw [windowByte_of_not_busy hb, fieldByte_buffer]
    have hread := readBytes_getElem? s off n k hk
    rw [List.getElem?_eq_getElem (by rw [readBytes_length]; exact hk), hbyte] at hread
    rw [List.getElem_take, List.getElem_drop, Vector.getElem_toList]
    exact Option.some.inj hread

/-! ### The call's failure -/

/-- From `s` the call has failed in transport, at the poll limit only if there is one (R77, R89). -/
def CallFailed (s t : State) : Prop :=
  ∃ call, (call = .pollLimit → s.pollLimit ≠ none) ∧ t.returned = s.returned ++ [.error (.transportFailure call)]

theorem CallFailed.of_eq {s u t : State} (h : CallFailed u t) (hl : u.pollLimit = s.pollLimit)
    (hr : u.returned = s.returned) : CallFailed s t := by
  rwa [CallFailed, ← hl, ← hr]

/-- A transport call that fails ends the call under way (R77). -/
theorem callFailed_finish {s u : State} {call : FailedCall} (hr : u.returned = s.returned) (hc : call ≠ .pollLimit) :
    CallFailed s (u.finish (.error (.transportFailure call))) :=
  ⟨call, fun h => absurd h hc, by rw [State.finish_returned, hr]⟩

/-! ### The payload (R88 step 2) -/

/-- How the payload writes of `data` at `off` that began in `s` may end. -/
def PayloadEnd (s : State) (off : Nat) (data : List Byte) (x : Execute) (t : State) : Prop :=
  t = { s with task := t.task, returned := t.returned, buf := t.buf, draws := t.draws, link := t.link } ∧
  ((t.task = .trigger x ∧ t.returned = s.returned ∧ t.buf = overlay s.buf off data) ∨
    (t.task = .idle ∧ CallFailed s t ∧ OldOrNew s.buf off data t.buf))

/-- How the rest of the payload's writes end after the first `c` bytes is an end of the whole. -/
theorem PayloadEnd.of_drop {s t : State} {off c : Nat} {data : List Byte} {x : Execute} {k : HostTask}
    (h : PayloadEnd ((s.withBuf (overlay s.buf off (data.take c))).relink.withTask k) (off + c) (data.drop c) x t) :
    PayloadEnd s off data x t := by
  obtain ⟨hframe, ⟨htask, hret, hbuf⟩ | ⟨htask, hret, hbuf⟩⟩ := h
  · exact ⟨hframe, .inl ⟨htask, hret, hbuf.trans (overlay_take_drop ..)⟩⟩
  · exact ⟨hframe, .inr ⟨htask, hret, OldOrNew.of_drop hbuf⟩⟩

/-- Chunk by chunk: a failed chunk ends the call, and after a delivered one there is less left. -/
theorem payload_runsTo {s : State} {off : Nat} {data : List Byte} {x : Execute} (hf : s.fault = none)
    (hb : s.busy = false) (ht : s.task = .payload off data x) (hne : data ≠ []) (ho : off + data.length ≤ 80) :
    RunsTo s (PayloadEnd s off data x) := by
  have hc1 := one_le_chunk (List.length_pos_iff.2 hne)
  have hc32 := chunk_le_32 data.length
  have hc := chunk_le data.length
  have hlen : (data.take (chunk data.length)).length = chunk data.length := List.length_take_of_le hc
  have hstep : step s = writeThen s off (data.take (chunk data.length))
      (payloadOn (off + chunk data.length) (data.drop (chunk data.length)) x) := by
    rw [step_of_not_busy hf hb]
    simp only [hostStep, ht]
  obtain h | ⟨b, hold, h⟩ := writeThen_buffer (off := off) (v := data.take (chunk data.length))
    (payloadOn (off + chunk data.length) (data.drop (chunk data.length)) x) hb (by omega) (by omega) (by omega)
  · refine .of_step (hstep.trans h) ?_
    by_cases hrest : data.drop (chunk data.length) = []
    · rw [hrest, List.take_of_length_le (List.drop_eq_nil_iff.1 hrest)]
      exact .now ⟨rfl, .inl ⟨rfl, rfl, rfl⟩⟩
    · rw [payloadOn, if_neg (by rwa [List.isEmpty_iff])]
      have hdrop : (data.drop (chunk data.length)).length = data.length - chunk data.length := List.length_drop
      refine .mono (payload_runsTo ?_ ?_ rfl hrest ?_) fun _ => PayloadEnd.of_drop
      · exact hf
      · exact hb
      · omega
  · exact .of_step (hstep.trans h) (.now ⟨rfl, .inr ⟨rfl, callFailed_finish rfl nofun, hold.of_take⟩⟩)
termination_by data.length

/-! ### The trigger (R88 step 3) -/

/-- The trigger that `execute` writes. -/
def Execute.trigger (x : Execute) : Trigger := ⟨x.arg0, x.arg1, x.arg2, x.opcode⟩

theorem failedWrite_returned (s : State) (off : Nat) (v : List Byte) (l : BitVec 32) (a : Bool) :
    (failedWrite s off v l a).returned = s.returned := by
  obtain ⟨tr, -, h | h⟩ | ⟨-, h⟩ | ⟨-, h⟩ := failedWrite_cases s off v l a <;> rw [h] <;> rfl

/-- The trigger write starts the command, or ends the call (R80, R78). -/
theorem hostStep_trigger {s : State} {x : Execute} (hb : s.busy = false) (ht : s.task = .trigger x) :
    hostStep s = .next ((acceptTrigger s x.trigger).relink.withTask (.poll 0 x)) ∨
      ∃ t, hostStep s = .next t ∧ t.task = .idle ∧ CallFailed s t := by
  have hstep : hostStep s = writeThen s 0x50 x.trigger.bytes fun t => t.withTask (.poll 0 x) := by
    simp only [hostStep, ht]
    rfl
  have hm := memWrite_trigger hb x.trigger
  obtain ⟨k, -, he⟩ | ⟨u, hu, h | ⟨l, a, h⟩⟩ :=
    writeThen_cases s 0x50 x.trigger.bytes fun t => t.withTask (.poll 0 x)
  · cases hm.symm.trans he
  · cases hm.symm.trans hu
    exact .inl (hstep.trans h)
  · exact .inr ⟨_, hstep.trans h, rfl, callFailed_finish (failedWrite_returned ..) nofun⟩

/-! ### The poll (R88 step 4, R89) -/

theorem readThen_of_delivered {s : State} {off n : Nat} (f : State → List Byte → State) (hl : s.link = .delivered)
    (hb : off + n ≤ 0x100 ∧ 1 ≤ n ∧ n ≤ 32) :
    readThen s off n f = .next (f (s.spend n).relink (s.readBytes off n)) := by
  simp only [readThen, transportRead, (memRead_eq_ok_iff s off n _).2 ⟨hb, rfl⟩, hl]

theorem pollGivesUp_iff {limit : Option Nat} {polls : Nat} :
    pollGivesUp limit polls = true ↔ ∃ l, limit = some l ∧ l ≤ polls := by
  cases limit <;> simp [pollGivesUp]

section

variable {s : State} {polls : Nat} {x : Execute}

theorem hostStep_poll (ht : s.task = .poll polls x) : hostStep s = readThen s 0x54 4 (pollOn (polls + 1) x) := by
  simp only [hostStep, ht]

/-- A status read fails, or the poll goes on with the pair. -/
theorem hostStep_poll_cases (ht : s.task = .poll polls x) :
    hostStep s = .next (pollOn (polls + 1) x (s.spend 4).relink [s.st0, s.st1, s.free 2, s.free 3]) ∨
      ∃ call, call ≠ .pollLimit ∧ hostStep s = .next (s.relink.finish (.error (.transportFailure call))) := by
  rw [hostStep_poll ht, ← readBytes_status]
  obtain ⟨k, -, hk⟩ | ⟨-, h | h⟩ := readThen_cases s 0x54 4 (pollOn (polls + 1) x)
  · exact absurd (by decide) hk
  · exact .inl h
  · exact .inr ⟨.read 0x54 4, nofun, h⟩

variable {status0 : Byte} (status1 : Byte) (rest : List Byte)

theorem pollOn_of_busy (h : status0 = busyStatus) : pollOn polls x s (status0 :: status1 :: rest) =
    if pollGivesUp s.pollLimit polls then s.finish (.error (.transportFailure .pollLimit))
    else s.withTask (.poll polls x) := if_pos h

theorem pollOn_of_answer (h : status0 ≠ busyStatus) : pollOn polls x s (status0 :: status1 :: rest) =
    if x.responseLength = 0 then s.finish (frameResult x status0 status1 [])
    else s.withTask (.response status0 status1 [] x) := if_neg h

end

/-- The host is polling for `x`, with nothing returned since `s`, or the call that began in `s` has failed. -/
def PollsOrFailed (s : State) (x : Execute) (t : State) : Prop :=
  (∃ polls, t.task = .poll polls x) ∧ t.returned = s.returned ∨ t.task = .idle ∧ CallFailed s t

theorem PollsOrFailed.of_eq {s u t : State} {x : Execute} (h : PollsOrFailed u x t) (hl : u.pollLimit = s.pollLimit)
    (hr : u.returned = s.returned) : PollsOrFailed s x t :=
  h.imp (fun ⟨ht, hret⟩ => ⟨ht, hret.trans hr⟩) (fun ⟨ht, hfail⟩ => ⟨ht, hfail.of_eq hl hr⟩)

/-- A status read that shows busy does not end the poll but by a failure (R89). -/
theorem hostStep_poll_of_busyStatus {s t : State} {polls : Nat} {x : Execute} (ht : s.task = .poll polls x)
    (h0 : s.st0 = busyStatus) (h : hostStep s = .next t) : PollsOrFailed s x t := by
  obtain hs | ⟨call, hcall, hs⟩ := hostStep_poll_cases ht
  · cases h.symm.trans hs
    rw [pollOn_of_busy _ _ h0]
    split_ifs with hlimit
    · obtain ⟨l, hl, -⟩ := pollGivesUp_iff.1 hlimit
      exact .inr ⟨rfl, _, fun _ hn => Option.some_ne_none l (hl.symm.trans hn), rfl⟩
    · exact .inl ⟨⟨_, rfl⟩, rfl⟩
  · cases h.symm.trans hs
    exact .inr ⟨rfl, callFailed_finish rfl hcall⟩

/-! ### The response (R88 step 5) -/

/-- How the response reads that began in `s` may end. -/
def ResponseEnd (s : State) (status0 status1 : Byte) (x : Execute) (t : State) : Prop :=
  t.task = .idle ∧ AfterReads s t ∧
  (t.returned = s.returned ++ [frameResult x status0 status1 (s.buf.toList.take x.responseLength)] ∨ CallFailed s t)

/-- How the rest of the response reads ends after a delivered read is an end of the whole. -/
theorem ResponseEnd.of_afterRead {s t : State} {n : Nat} {status0 status1 : Byte} {x : Execute} {k : HostTask}
    (h : ResponseEnd ((s.spend n).relink.withTask k) status0 status1 x t) : ResponseEnd s status0 status1 x t := by
  obtain ⟨htask, hafter, hend⟩ := h
  have hread : AfterReads s ((s.spend n).relink.withTask k) := Eq.refl _
  refine ⟨htask, hread.trans hafter, hend.imp (fun hret => ?_) fun hfail => hfail.of_eq rfl rfl⟩
  rwa [State.withTask_returned, State.withTask_buf, State.relink_returned, State.relink_buf, State.spend_returned,
    State.spend_buf] at hret

/-- Chunk by chunk: a failed chunk ends the call, and after a delivered one there is less left to read. -/
theorem response_runsTo {s : State} {status0 status1 : Byte} {m : Nat} {x : Execute} (hf : s.fault = none)
    (hb : s.busy = false) (ht : s.task = .response status0 status1 (s.buf.toList.take m) x)
    (hlt : m < x.responseLength) (hr : x.responseLength ≤ 80) : RunsTo s (ResponseEnd s status0 status1 x) := by
  have hc1 := one_le_chunk (Nat.sub_pos_of_lt hlt)
  have hc32 := chunk_le_32 (x.responseLength - m)
  have hc := chunk_le (x.responseLength - m)
  have htake : ∀ n, n ≤ 80 → (s.buf.toList.take n).length = n := fun n hn => by
    rw [List.length_take, Vector.length_toList, Nat.min_eq_left hn]
  have hstep : step s = readThen s m (chunk (x.responseLength - m))
      (responseOn status0 status1 (s.buf.toList.take m) x) := by
    rw [step_of_not_busy hf hb]
    simp only [hostStep, ht, htake m (by omega)]
  obtain ⟨k, -, hk⟩ | ⟨-, h | h⟩ := readThen_cases s m (chunk (x.responseLength - m))
    (responseOn status0 status1 (s.buf.toList.take m) x)
  · exact absurd ⟨by omega, hc1, hc32⟩ hk
  · refine .of_step (hstep.trans h) ?_
    rw [responseOn, readBytes_buffer hb (by omega), ← List.take_add, htake _ (by omega)]
    split_ifs with hdone
    · have hall : m + chunk (x.responseLength - m) = x.responseLength := by omega
      rw [hall]
      exact .now ⟨rfl, Eq.refl _, .inl rfl⟩
    · refine .mono (response_runsTo ?_ ?_ rfl (Nat.lt_of_not_le hdone) hr) fun _ => ResponseEnd.of_afterRead
      · exact hf
      · exact hb
  · exact .of_step (hstep.trans h) (.now ⟨rfl, Eq.refl _, .inr (callFailed_finish rfl nofun)⟩)
termination_by x.responseLength - m

/-- A status read that shows an answer is followed by the response (R88). -/
theorem answer_runsTo {s : State} {polls : Nat} {x : Execute} (hf : s.fault = none) (hb : s.busy = false)
    (ht : s.task = .poll polls x) (h0 : s.st0 ≠ busyStatus) (hr : x.responseLength ≤ 80) :
    RunsTo s (ResponseEnd s s.st0 s.st1 x) := by
  have hstep := step_of_not_busy hf hb
  obtain h | ⟨call, hcall, h⟩ := hostStep_poll_cases ht
  · refine .of_step (hstep.trans h) ?_
    rw [pollOn_of_answer _ _ h0]
    split_ifs with hzero
    · exact .now ⟨rfl, Eq.refl _, .inl (by rw [hzero]; rfl)⟩
    · refine .mono (response_runsTo (m := 0) ?_ ?_ rfl (Nat.pos_of_ne_zero hzero) hr) fun _ => ResponseEnd.of_afterRead
      · exact hf
      · exact hb
  · exact .of_step (hstep.trans h) (.now ⟨rfl, Eq.refl _, .inr (callFailed_finish rfl hcall)⟩)

/-! ### The framed call -/

theorem frameError_eq_none {x : Execute} (hp : x.payload.length ≤ 80) (hr : x.responseLength ≤ 80) :
    frameError x = none := by
  rw [frameError, if_neg (Nat.not_lt.2 hp), if_neg (Nat.not_lt.2 hr)]

/-- The call that began in `s` has its payload in the buffer and writes its trigger next (R88 step 3). -/
def AtTrigger (s : State) (x : Execute) (t : State) : Prop :=
  t = { s with
    calls := [], task := .trigger x, buf := overlay s.buf 0 x.payload, draws := t.draws, link := t.link }

section

variable {s : State} {c : HostCall} {x : Execute} (hf : s.fault = none) (hb : s.busy = false) (ht : s.task = .idle)
  (hcalls : s.calls = [c]) (harg : argumentError c = none) (hplan : hostPlan c = .frame x)
  (hp : x.payload.length ≤ 80) (hr : x.responseLength ≤ 80)

include hf hb ht hcalls harg hplan hp hr

/-- A framed call in range is taken up with its payload's first chunk next, or with its trigger (R79, R88). -/
theorem step_framedCall : step s = .next ((s.withCalls []).withTask
    (if x.payload.isEmpty then .trigger x else .payload 0 x.payload x)) := by
  rw [step_of_not_busy hf hb]
  simp only [hostStep, ht, hostIdle, hcalls, startCall, harg, startPlan, hplan, startFrame, frameError_eq_none hp hr]
  split <;> rfl

theorem framedCall_runsTo_trigger : RunsTo s fun t => AtTrigger s x t ∨ t.task = .idle ∧ CallFailed s t := by
  refine .of_step (step_framedCall hf hb ht hcalls harg hplan hp hr) ?_
  by_cases hempty : x.payload = []
  · refine .now (.inl ?_)
    rw [AtTrigger, hempty, overlay_nil]
    rfl
  · rw [if_neg (mt List.isEmpty_iff.1 hempty)]
    refine .mono (payload_runsTo ?_ ?_ rfl hempty (by omega)) ?_
    · exact hf
    · exact hb
    · rintro t ⟨hframe, ⟨htask, hret, hbuf⟩ | ⟨htask, hfail, -⟩⟩
      · rw [htask, hret, hbuf] at hframe
        exact .inl hframe
      · exact .inr ⟨htask, hfail⟩

end

/-- What the device is at, of the command `i` that `x` triggers on the buffer `b`: still to be accepted, latched, or
completed from a state where it stood latched. The registers are those of `s` until the completion (R83, R85). -/
def DeviceRuns (s : State) (x : Execute) (i : Instr) (b : Bytes 80) (t : State) : Prop :=
  match t.phase with
  | .idle => False
  | .commandPending => SameRegisters s t ∧ t.trig = x.trigger ∧ t.buf = b
  | .executing => SameRegisters s t ∧ t.lcmd = some ⟨x.trigger, b.toList.take (payloadLength i)⟩
  | .completed => ∃ u, SameRegisters s u ∧ u.lcmd = some ⟨x.trigger, b.toList.take (payloadLength i)⟩ ∧
      exec i u = .next t

/-- The call that began in `s` has its trigger accepted and no answer read yet, or it has failed. -/
structure CallRuns (s : State) (x : Execute) (i : Instr) (b : Bytes 80) (t : State) : Prop where
  stale : t.staleStatusWindow = false
  limit : t.pollLimit = s.pollLimit
  host : PollsOrFailed s x t
  device : DeviceRuns s x i b t

/-- Without `stale_status_window` a busy device shows busy (R28, R81). -/
theorem State.Inv.st0_of_busy {s : State} (hi : s.Inv) (hb : s.busy = true) (hs : s.staleStatusWindow = false) :
    s.st0 = busyStatus := by
  have hp := hi.phase
  obtain h | h := (busy_eq_true_iff s).1 hb <;> rw [PhaseOk, h] at hp
  · exact hp hs
  · exact hp.1

/-- A host step beside a busy device leaves it where it is in its command. -/
theorem DeviceRuns.of_sameDevice {s t u : State} {x : Execute} {i : Instr} {b : Bytes 80} (h : DeviceRuns s x i b t)
    (hb : t.busy = true) (hd : SameDevice t u) : DeviceRuns s x i b u := by
  unfold DeviceRuns at h ⊢
  rw [hd.phase]
  obtain hp | hp := (busy_eq_true_iff t).1 hb <;> rw [hp] at h ⊢
  · obtain ⟨hregs, htrig, hbuf⟩ := h
    exact ⟨hregs.trans hd.sameRegisters, hd.trig.trans htrig, hd.buf.trans hbuf⟩
  · obtain ⟨hregs, hlatch⟩ := h
    exact ⟨hregs.trans hd.sameRegisters, hd.lcmd.trans hlatch⟩

/-- A completion changes nothing of the host's, and none of the parameters. -/
theorem exec_host {i : Instr} {s t : State} (h : exec i s = .next t) :
    t.task = s.task ∧ t.returned = s.returned ∧ t.pollLimit = s.pollLimit ∧
      t.staleStatusWindow = s.staleStatusWindow ∧ (t.st0, t.st1) = successStatus := by
  obtain ⟨u, r, rfl, rfl | ⟨k, v, rfl⟩ | ⟨k, v, rfl⟩⟩ := exec_next h <;> exact ⟨rfl, rfl, rfl, rfl, rfl⟩

section

variable {s t u : State} {x : Execute} {i : Instr} {b : Bytes 80} (h : CallRuns s x i b t)

include h

/-- The polling host reads a busy status, or its call fails (R89). -/
theorem CallRuns.host_step (hw : t.Waits) (hd : t.deviceTurn = false) (hh : hostStep t.tick = .next u) :
    CallRuns s x i b u := by
  have hsame : SameDevice t u := (sameDevice_tick t).trans (hostStep_of_busy (s := t.tick) hw.busy hh)
  obtain ⟨⟨polls, hpoll⟩, hret⟩ | ⟨hidle, -⟩ := h.host
  · have h0 : t.tick.st0 = busyStatus := hw.inv.st0_of_busy hw.busy h.stale
    have hgo := hostStep_poll_of_busyStatus (s := t.tick) hpoll h0 hh
    exact ⟨hsame.staleStatusWindow.trans h.stale, hsame.pollLimit.trans h.limit, hgo.of_eq h.limit hret,
      h.device.of_sameDevice hw.busy hsame⟩
  · exact absurd hidle (hw.hostTurn hd).1

/-- The device latches the call's trigger, with the payload its operands name (R83). -/
theorem CallRuns.accept {j : Instr} (hi : decode x.trigger = .ok i) (hp : t.phase = .commandPending)
    (hj : decode t.trig = .ok j) : CallRuns s x i b (latchCommand t j) := by
  obtain ⟨hstale, hlimit, hhost, hdev⟩ := h
  rw [DeviceRuns, hp] at hdev
  obtain ⟨hregs, htrig, hbuf⟩ := hdev
  rw [htrig, hi] at hj
  cases hj
  refine ⟨hstale, hlimit, hhost, hregs.trans (sameRegisters_latchCommand ..), ?_⟩
  rw [latchCommand_lcmd, htrig, hbuf]

/-- The device completes the call's command (R85). -/
theorem CallRuns.complete {c : LatchedCommand} {j : Instr} (hi : decode x.trigger = .ok i) (hp : t.phase = .executing)
    (hc : t.lcmd = some c) (hj : decode c.trigger = .ok j) (he : exec j t = .next u) : CallRuns s x i b u := by
  obtain ⟨hstale, hlimit, hhost, hdev⟩ := h
  rw [DeviceRuns, hp] at hdev
  obtain ⟨hregs, hlatch⟩ := hdev
  cases hlatch.symm.trans hc
  cases hi.symm.trans hj
  obtain ⟨htask, hret, hlim, hst, -⟩ := exec_host he
  refine ⟨hst.trans hstale, hlim.trans hlimit, ?_, ?_⟩
  · rwa [PollsOrFailed, CallFailed, htask, hret]
  · rw [DeviceRuns, exec_phase he]
    exact ⟨t, hregs, hlatch, he⟩

end

/-- Every step of the busy device and its polling host brings the call on, or ends it with a failure. -/
theorem CallRuns.step {s t u : State} {x : Execute} {i : Instr} {b : Bytes 80} (hi : decode x.trigger = .ok i)
    (hw : t.Waits) (h : CallRuns s x i b t) (hstep : step t = .next u) : CallRuns s x i b u := by
  obtain ⟨-, ⟨hd, hh⟩ | ⟨hp, -, j, hj, -, rfl⟩ | ⟨hp, -, c, j, hc, hj, he⟩⟩ := step_next hstep
  · exact h.host_step hw hd hh
  · exact h.accept hi hp hj
  · exact h.complete hi hp hc hj he

/-- The call that began in `s` has run its command once and returned its pair and response. -/
def CallAnswered (s : State) (x : Execute) (i : Instr) (b : Bytes 80) (t : State) : Prop :=
  ∃ u v, SameRegisters s u ∧ u.lcmd = some ⟨x.trigger, b.toList.take (payloadLength i)⟩ ∧ exec i u = .next v ∧
    AfterReads v t ∧ t.returned = s.returned ++ [frameResult x 0xC3 0x00 (v.buf.toList.take x.responseLength)]

/-- From the completion on, the poll reads the pair and then the response (R88). -/
theorem CallRuns.runsTo_answer {s t : State} {x : Execute} {i : Instr} {b : Bytes 80} (h : CallRuns s x i b t)
    (hf : t.fault = none) (hp : t.phase = .completed) (hr : x.responseLength ≤ 80) :
    RunsTo t fun u => u.task = .idle ∧ (CallAnswered s x i b u ∨ CallFailed s u) := by
  obtain ⟨-, hlimit, ⟨⟨polls, hpoll⟩, hret⟩ | ⟨hidle, hfail⟩, hdev⟩ := h
  · rw [DeviceRuns, hp] at hdev
    obtain ⟨u, hregs, hlatch, he⟩ := hdev
    obtain ⟨-, -, -, -, hpair⟩ := exec_host he
    obtain ⟨h0, h1⟩ : t.st0 = 0xC3 ∧ t.st1 = 0x00 := Prod.mk.inj hpair
    have hb : t.busy = false := (busy_eq_false_iff t).2 (.inr hp)
    refine (answer_runsTo hf hb hpoll (by rw [h0]; decide) hr).mono ?_
    rintro v ⟨htask, hafter, hend⟩
    refine ⟨htask, hend.imp (fun hv => ?_) fun hv => hv.of_eq hlimit hret⟩
    rw [h0, h1, hret] at hv
    exact ⟨u, t, hregs, hlatch, he, hafter, hv⟩
  · exact .now ⟨hidle, .inr hfail⟩

/-- The trigger write delivered, the call's command waits for its acceptance, and the host polls (R80, R88). -/
theorem AtTrigger.callRuns {s t : State} {x : Execute} (h : AtTrigger s x t) (hs : s.staleStatusWindow = false)
    (i : Instr) : CallRuns s x i (overlay s.buf 0 x.payload)
      ((acceptTrigger t x.trigger).relink.withTask (.poll 0 x)) := by
  rw [h]
  exact ⟨hs, rfl, .inl ⟨⟨0, rfl⟩, rfl⟩, ⟨rfl, rfl, rfl, rfl, rfl, rfl, rfl, rfl, rfl⟩, rfl, rfl⟩

/-- From the trigger write on: the device runs the command while the host polls, and then the answer is read. -/
theorem AtTrigger.runsTo_answer {s t : State} {x : Execute} {i : Instr} (h : AtTrigger s x t) (hinv : t.Inv)
    (hb : s.busy = false) (hs : s.staleStatusWindow = false) (hi : decode x.trigger = .ok i)
    (hw : i.wellFormed = true) (hr : x.responseLength ≤ 80) :
    RunsTo t fun u => u.task = .idle ∧ (CallAnswered s x i (overlay s.buf 0 x.payload) u ∨ CallFailed s u) := by
  have hbt : t.busy = false := by rw [h]; exact hb
  have htask : t.task = .trigger x := by rw [h]
  have hcalls : t.calls = [] := by rw [h]
  have hstep := step_of_not_busy hinv.noFault hbt
  obtain ht | ⟨u, ht, hidle, hfail⟩ := hostStep_trigger hbt htask
  · have hu := hstep.trans ht
    have hvalid : TriggerValid x.trigger := (wellFormedCommandsAreTheValidTriggers _).1 ⟨i, hi, hw⟩
    have hwaits : State.Waits ((acceptTrigger t x.trigger).relink.withTask (.poll 0 x)) :=
      ⟨everyStepKeepsTheInvariant _ _ hinv hu, rfl, fun _ => hvalid, hcalls, trivial⟩
    refine .of_step hu (((waits_runsTo_completed (CallRuns.step hi) hwaits (h.callRuns hs i)).inv hwaits.inv).trans ?_)
    rintro v ⟨hv, hp, hcall⟩
    exact hcall.runsTo_answer hv.noFault hp hr
  · exact .of_step (hstep.trans ht) (.now ⟨hidle, .inr (hfail.of_eq (by rw [h]) (by rw [h]))⟩)

/-! ### The obligations -/

/-- Settles O40: the read finds the pair, and the poll goes on as the pair says. -/
theorem pollGoesOnWhileBusy : Obligations.PollGoesOnWhileBusy := by
  intro s polls x ht hl
  have hstep := (hostStep_poll ht).trans (readThen_of_delivered _ hl (by decide))
  rw [readBytes_status] at hstep
  refine ⟨_, (s.spend 4).relink, hstep, rfl, fun h0 hlim => ?_, fun h0 hlim => ?_, fun h0 hr => ?_, fun h0 hr => ?_⟩
  · have hgoes : ¬ pollGivesUp s.pollLimit (polls + 1) = true := fun hg => by
      obtain ⟨l, hsome, hle⟩ := pollGivesUp_iff.1 hg
      exact absurd (hlim l hsome) (Nat.not_lt.2 hle)
    exact (pollOn_of_busy _ _ h0).trans (if_neg hgoes)
  · exact (pollOn_of_busy _ _ h0).trans (if_pos (pollGivesUp_iff.2 hlim))
  · exact (pollOn_of_answer _ _ h0).trans (if_pos hr)
  · exact (pollOn_of_answer _ _ h0).trans (if_neg hr)

/-- Settles O58: the payload's chunks are written, and the response's read, one after the other. -/
theorem executeMovesPayloadAndResponse : Obligations.ExecuteMovesPayloadAndResponse := by
  refine ⟨fun s data x hf hp ht hne hlen => ?_, fun s s0 s1 x hf hp ht h1 hr => ?_⟩
  · refine (payload_runsTo hf ((busy_eq_false_iff s).2 hp) ht hne (by omega)).mono ?_
    rintro t ⟨hframe, hend⟩
    refine ⟨hframe, hend.imp_right ?_⟩
    rintro ⟨htask, ⟨call, -, hret⟩, hbuf⟩
    exact ⟨htask, ⟨call, hret⟩, fun k => (hbuf k).imp_right fun ⟨⟨_, hlt⟩, hk⟩ => ⟨hlt, hk⟩⟩
  · refine (response_runsTo (m := 0) hf ((busy_eq_false_iff s).2 hp) ht h1 hr).mono ?_
    rintro t ⟨htask, hafter, hend⟩
    rw [AfterReads, htask] at hafter
    exact ⟨hafter, hend.imp_right fun ⟨call, _, hret⟩ => ⟨call, hret⟩⟩

/-- Settles O59: payload, trigger, the command's run beside the poll, response; each may fail in transport instead. -/
theorem framedCallRunsItsCommandOrFails : Obligations.FramedCallRunsItsCommandOrFails := by
  intro s c x i hinv hp ht hcalls harg hplan hlen hr hi hw hs
  have hb := (busy_eq_false_iff s).2 hp
  have hrun : RunsTo s fun t => t.task = .idle ∧
      (CallAnswered s x i (overlay s.buf 0 x.payload) t ∨ CallFailed s t) := by
    refine ((framedCall_runsTo_trigger hinv.noFault hb ht hcalls harg hplan hlen hr).inv hinv).trans ?_
    rintro t ⟨htinv, hat | ⟨hidle, hfail⟩⟩
    · exact hat.runsTo_answer htinv hb hs hi hw hr
    · exact .now ⟨hidle, .inr hfail⟩
  refine hrun.mono fun t ⟨htask, hend⟩ => ⟨htask, hend.imp_left ?_⟩
  rintro ⟨u, v, hregs, hlatch, he, hafter, hret⟩
  have hd := hafter.sameDevice
  obtain ⟨-, -, -, -, hpair⟩ := exec_host he
  refine ⟨_, u, v, hlatch, rfl, fun hl => hl ▸ overlay_take s.buf hlen, hregs.pcr, hregs.ctr, hregs.vbits,
    hregs.vlocks, hregs.user, hregs.uid, hregs.rootKey, hregs.kQuot, hregs.kHkdf, he, hd.buf, hd.pcr, hd.ctr, ?_,
    hd.phase.trans (exec_phase he), hret⟩
  rw [hd.st0, hd.st1]
  exact hpair

end Sys2Proof.Machine
end

section
/-!
PROOFS. 42_commands.md: what each command answers and leaves, which operands fault at acceptance, and the increment
call as a whole.
-/

namespace Sys2Proof.Machine

open Sys2Proof

-- One declaration at a time, within the memory the check allows beside the tests.
set_option Elab.async false

/-! ### Bytes and words -/

/-- The mask stands in the quote message with three zero bytes after it (44_key_derivation_attestation.md R126). -/
theorem le32_zext32 (b : Byte) : le32 (zext32 b) = [b, 0x00, 0x00, 0x00] := by
  have hb := b.isLt
  simp only [le32, zext32, List.cons.injEq, and_true]
  refine ⟨?_, ?_, ?_, ?_⟩ <;>
  · apply BitVec.eq_of_toNat_eq
    simp only [BitVec.extractLsb'_toNat, BitVec.toNat_setWidth, BitVec.ofNat_eq_ofNat, BitVec.toNat_ofNat,
      Nat.shiftRight_eq_div_pow]
    omega

/-- Adding to a counter is addition modulo 2^32 (42_commands.md R101). -/
theorem add_zext32 (v : Word) (b : Byte) : v + zext32 b = BitVec.ofNat 32 ((v.toNat + b.toNat) % 2 ^ 32) := by
  apply BitVec.eq_of_toNat_eq
  simp [zext32]

/-- A digest stands in the first 32 bytes of the buffer of a command that ended with success (R37, R85). -/
theorem completedBuf_take_digest (s : State) (d : Bytes 32) :
    (completedBuf s d.toList successStatus).toList.take 32 = d.toList := by
  have h := completedBuf_take s d.toList (by rw [Vector.length_toList]; decide)
  rwa [Vector.length_toList] at h

/-- The quote message written out, field by field (44_key_derivation_attestation.md R126). -/
theorem quoteMsg_eq (mask : Byte) (nonce : List Byte) (s : State) : quoteMsg mask nonce s =
    ([0x51, 0x55, 0x4F, 0x54] : List Byte) ++ [mask, 0x00, 0x00, 0x00]
      ++ (if mask.getLsbD 7 then s.uid.toList else [])
      ++ (if mask.getLsbD 6 then le32 s.vbits ++ le32 s.vlocks else [])
      ++ (if mask.getLsbD 5 then le32 s.ctr[0] else [])
      ++ (if mask.getLsbD 4 then le32 s.ctr[1] else [])
      ++ (if mask.getLsbD 3 then s.user.toList else [])
      ++ (if mask.getLsbD 2 then s.pcr[2].toList else [])
      ++ (if mask.getLsbD 1 then s.pcr[1].toList else [])
      ++ (if mask.getLsbD 0 then s.pcr[0].toList else [])
      ++ nonce := by
  simp only [quoteMsg, quoteFields, selected, tagQuot, le32_zext32, List.append_assoc]

/-- From 0x58 on, the window's bytes are views of the registers (10_state.md R15). -/
theorem SameRegisters.fieldByte {s t : State} (h : SameRegisters s t) {a : Nat} (ha : 0x58 ≤ a) :
    t.fieldByte a = s.fieldByte a := by
  apply fieldByte_congr_of_le a ha h.vbits h.vlocks h.user h.uid <;> intros <;> simp only [h.ctr, h.pcr]

/-! ### Commands whose operands are in range -/

theorem exec_extend_of_inRange {index length : Byte} (arg2 : Byte) (s : State) (hi : index.toNat < 3)
    (hn : length.toNat ≤ 80) : exec (.extend index length arg2) s = .next (completeCommand
      (s.withPcr ⟨index.toNat, hi⟩ (extendDigest hashCore s.pcr[index.toNat] s.latchedData)) [] successStatus) := by
  obtain ⟨_, -, he⟩ | ⟨hout, -⟩ := execExtend_cases index length s
  · exact he
  · exact absurd ⟨hi, hn⟩ hout

theorem exec_quote_of_inRange (mask : Byte) {length : Byte} (arg2 : Byte) (s : State) (hn : length.toNat ≤ 80) :
    exec (.quote mask length arg2) s = .next
      (completeCommand s (quoteDigest hashCore mask s.latchedData s).toList successStatus) := by
  obtain ⟨-, he⟩ | ⟨hout, -⟩ := execQuote_cases mask length s
  · exact he
  · exact absurd hn hout

theorem exec_increment_of_inRange {index addend : Byte} (arg2 : Byte) (s : State) (hi : index.toNat < 2)
    (ha : 1 ≤ addend.toNat) : exec (.increment index addend arg2) s = .next (completeCommand
      (s.withCtr ⟨index.toNat, hi⟩ (s.ctr[index.toNat] + zext32 addend)) [] successStatus) := by
  obtain ⟨_, -, he⟩ | ⟨hout, -⟩ := execIncrement_cases index addend s
  · exact he
  · exact absurd ⟨hi, ha⟩ hout

theorem exec_hkdf_of_inRange {length : Byte} (arg1 arg2 : Byte) (s : State) (hn : length.toNat ≤ 80) :
    exec (.hkdf length arg1 arg2) s = .next
      (completeCommand s (hkdfDigest hashCore s.kHkdf s.latchedData).toList successStatus) := by
  obtain ⟨-, he⟩ | ⟨hout, -⟩ := execHkdf_cases length s
  · exact he
  · exact absurd hn hout

/-- An EXTEND writes the selected PCR, the digest of its old value and the latched data (42_commands.md R97). -/
theorem exec_extend_pcr {index length arg2 : Byte} {s t : State} {c : LatchedCommand} (hc : s.lcmd = some c)
    (h : exec (.extend index length arg2) s = .next t) (hi : index.toNat < 3) :
    t.pcr[index.toNat] = Config.sha256 (s.pcr[index.toNat].toList ++ c.data) := by
  obtain ⟨_, rfl⟩ := exec_extend_next h
  rw [latchedData_of_some hc]
  exact Vector.getElem_set_self _

/-! ### Operands that fault at acceptance -/

/-- A trigger whose command is not well-formed is refused (30_encoding.md R67, 41_command_protocol.md R83). -/
theorem acceptanceFaultsOn_of_not_wellFormed {bad : Trigger → Prop}
    (h : ∀ t, bad t → ∃ i, encode i = t ∧ i.wellFormed = false) : AcceptanceFaultsOn bad := by
  intro s hf hp hd hbad
  obtain ⟨i, hi, hw⟩ := h s.trig hbad
  refine invalidTriggerFaultsAtAcceptance s hf hp hd fun hv => ?_
  rw [← hi, ← wellFormed_iff_triggerValid, hw] at hv
  exact Bool.false_ne_true hv

/-! ### A placed word -/

/-- A command placed by its trigger bytes runs next (log 12). -/
theorem step_withLatched (s : State) {t : Trigger} {i : Instr} (h : decode t = .ok i) :
    step (s.withLatched t) = exec i (s.withLatched t) := by
  have hlatch : latchedFor s t = ⟨t, s.buf.toList.take (payloadLength i)⟩ := by rw [latchedFor, h]
  refine step_of_executing (c := latchedFor s t) rfl rfl rfl rfl ?_
  rw [hlatch]
  exact h

/-! ### The obligations -/

/-- Settles O7: NOP completes with an empty response. -/
theorem nopChangesOnlyBufferAndStatus : Obligations.NopChangesOnlyBufferAndStatus :=
  fun _ _ _ s => ⟨completedBuf s [] successStatus, rfl⟩

/-- Settles O42: a table word decodes as the trigger that is placed. -/
theorem placedWordRunsNext : Obligations.PlacedWordRunsNext := by
  intro s w i h
  rw [decodeTableWord_eq_some_iff, ← tableTrigger_32] at h
  exact step_withLatched s h

/-- Settles O8: EXTEND in range sets one PCR and completes; out of range its trigger is not valid. -/
theorem extendChainsTheLatchedData : Obligations.ExtendChainsTheLatchedData := by
  refine ⟨fun index length arg2 s c hi hn hc => ?_, acceptanceFaultsOn_of_not_wellFormed ?_⟩
  · rw [exec_extend_of_inRange arg2 s hi hn, latchedData_of_some hc]
    exact ⟨_, rfl⟩
  · rintro ⟨a, b, c, _⟩ ⟨rfl, hout⟩
    refine ⟨.extend a b c, rfl, ?_⟩
    simp only [Instr.wellFormed, Bool.and_eq_false_iff, decide_eq_false_iff_not, not_le]
    exact hout

/-- Settles O9: QUOTE in range completes with the digest; out of range its trigger is not valid. -/
theorem quoteReturnsTheKeyedDigest : Obligations.QuoteReturnsTheKeyedDigest := by
  refine ⟨fun mask length arg2 s c hn hc => ⟨_, exec_quote_of_inRange mask arg2 s hn, ?_⟩,
    acceptanceFaultsOn_of_not_wellFormed ?_⟩
  · rw [completedBuf_take_digest, quoteDigest, latchedData_of_some hc, quoteMsg_eq]
    rfl
  · rintro ⟨a, b, c, _⟩ ⟨rfl, hout⟩
    exact ⟨.quote a b c, rfl, decide_eq_false (Nat.not_le.2 hout)⟩

/-- Settles O10: INCREMENT in range sets one counter and completes; out of range its trigger is not valid. -/
theorem incrementAddsModulo32Bits : Obligations.IncrementAddsModulo32Bits := by
  refine ⟨fun index addend arg2 s hi ha => ?_, acceptanceFaultsOn_of_not_wellFormed ?_⟩
  · rw [exec_increment_of_inRange arg2 s hi ha, add_zext32]
    exact ⟨_, rfl⟩
  · rintro ⟨a, b, c, _⟩ ⟨rfl, hout⟩
    refine ⟨.increment a b c, rfl, ?_⟩
    simp only [Instr.wellFormed, Bool.and_eq_false_iff, decide_eq_false_iff_not, not_le]
    exact hout.imp_right fun hb : b = 0 => by rw [hb]; decide

/-- Settles O11: HKDF in range completes with the digest; out of range its trigger is not valid. -/
theorem hkdfReturnsTheSeedDigest : Obligations.HkdfReturnsTheSeedDigest := by
  refine ⟨fun length arg1 arg2 s c hn hc => ⟨_, exec_hkdf_of_inRange arg1 arg2 s hn, ?_⟩,
    acceptanceFaultsOn_of_not_wellFormed ?_⟩
  · rw [completedBuf_take_digest, latchedData_of_some hc]
    rfl
  · rintro ⟨a, b, c, _⟩ ⟨rfl, hout⟩
    exact ⟨.hkdf a b c, rfl, decide_eq_false (Nat.not_le.2 hout)⟩

/-- Settles O12: a valid command completes, and every completion sets the success pair. -/
theorem validCommandsEndWithSuccess : Obligations.ValidCommandsEndWithSuccess := by
  have hpair : ∀ {i : Instr} {s t : State}, exec i s = .next t → (t.st0, t.st1) = successStatus := fun h => by
    obtain ⟨-, -, -, -, hp⟩ := exec_host h
    exact hp
  refine ⟨fun i s hw => ?_, fun i s t h => hpair h⟩
  obtain ⟨t, ht⟩ := exec_of_wellFormed hw s
  exact ⟨t, ht, hpair ht, exec_phase ht⟩

/-- Settles O16: these commands leave every register, and the window's bytes from 0x58 on are views of registers. -/
theorem nopQuoteHkdfLeaveTheWindowFields : Obligations.NopQuoteHkdfLeaveTheWindowFields := by
  intro i s t h hi a ha
  obtain hr | ⟨_, _, _, rfl⟩ | ⟨_, _, _, rfl⟩ := exec_registers h
  · exact hr.fieldByte ha
  · exact hi.elim
  · exact hi.elim

/-- Settles O17: the second digest is over the first. -/
theorem twoExtendsNestTheirDigests : Obligations.TwoExtendsNestTheirDigests := by
  intro index n1 n2 d1 d2 tr s t u hi hzero hc h1 h2
  have ht : t.pcr[index.toNat] = Config.sha256 (zero32.toList ++ d1) := by rw [exec_extend_pcr hc h1 hi, hzero]
  exact (exec_extend_pcr rfl h2 hi).trans (by rw [ht])

/-- Settles O56: the wrapper's framed call runs its INCREMENT once, on the counters of the call's start, or fails. -/
theorem incrementCallCountsOrFails : Obligations.IncrementCallCountsOrFails := by
  intro s i a hi hinv hp ht hcalls h1 h255 hs
  obtain ⟨-, -, -, hwrap, -⟩ := wrappersExpandAsTheTableSays
  obtain ⟨i', a', rfl, rfl, hplan⟩ := hwrap ⟨i, hi⟩ a h1 h255
  have harg : argumentError (.increment i'.toNat a'.toNat) = none := by
    rw [argumentError, if_neg (by omega), if_neg (by omega)]
  have hw : (Instr.increment i' a' 0).wellFormed = true := by
    rw [Instr.wellFormed, decide_eq_true (Nat.le_of_lt_succ hi), decide_eq_true h1]
    rfl
  obtain ⟨n, t, hrun, hidle, hend⟩ := framedCallRunsItsCommandOrFails s _ _ (.increment i' a' 0) hinv hp ht hcalls harg
    hplan (Nat.zero_le 80) (Nat.zero_le 80) rfl hw hs
  refine ⟨n, t, hrun, hidle, hend.imp_left ?_⟩
  rintro ⟨_, u, v, -, -, -, hpcr, hctr, -, -, -, -, -, -, -, he, -, htpcr, htctr, -, -, hret⟩
  obtain ⟨_, -, rfl⟩ := exec_increment_next he
  refine ⟨hret, ?_, htpcr.trans hpcr⟩
  rw [htctr, BitVec.ofNat_toNat, ← hctr]
  rfl

end Sys2Proof.Machine
end

section
/-!
PROOFS. 43_accessors.md: each accessor is one block read, whose bytes are its field's while no command is busy.
-/

namespace Sys2Proof.Machine

open Sys2Proof

-- One declaration at a time, within the memory the check allows beside the tests.
set_option Elab.async false

/-! ### Where each field stands in the window (10_state.md R14, 20_memory.md R43) -/

section

variable (s : State) {k : Nat}

theorem add_ne_of_lt {b c : Nat} (h : c < b) : b + k ≠ c := by omega

-- The chain of regions is walked by numeral comparisons alone: `omega` at each region takes far more memory.

theorem fieldByte_vbits (h : k < 4) : s.fieldByte (0x58 + k) = (le32 s.vbits)[k]? := by
  simp only [State.fieldByte, ↓reduceIte, ← Nat.lt_sub_iff_add_lt', add_ne_of_lt, Nat.reduceSub, Nat.reduceLT,
    Nat.not_lt_zero, h, Nat.add_sub_cancel_left]

theorem fieldByte_vlocks (h : k < 4) : s.fieldByte (0x5C + k) = (le32 s.vlocks)[k]? := by
  simp only [State.fieldByte, ↓reduceIte, ← Nat.lt_sub_iff_add_lt', add_ne_of_lt, Nat.reduceSub, Nat.reduceLT,
    Nat.not_lt_zero, h, Nat.add_sub_cancel_left]

theorem fieldByte_ctr (i : Fin 2) (h : k < 4) : s.fieldByte (0x60 + 4 * i.val + k) = (le32 s.ctr[i])[k]? := by
  match i with
  | 0 =>
    show s.fieldByte (0x60 + k) = (le32 s.ctr[0])[k]?
    simp only [State.fieldByte, ↓reduceIte, ← Nat.lt_sub_iff_add_lt', add_ne_of_lt, Nat.reduceSub, Nat.reduceLT,
      Nat.not_lt_zero, h, Nat.add_sub_cancel_left]
  | 1 =>
    show s.fieldByte (0x64 + k) = (le32 s.ctr[1])[k]?
    simp only [State.fieldByte, ↓reduceIte, ← Nat.lt_sub_iff_add_lt', add_ne_of_lt, Nat.reduceSub, Nat.reduceLT,
      Nat.not_lt_zero, h, Nat.add_sub_cancel_left]

theorem fieldByte_user (h : k < 32) : s.fieldByte (0x70 + k) = s.user.toList[k]? := by
  simp only [State.fieldByte, ↓reduceIte, ← Nat.lt_sub_iff_add_lt', add_ne_of_lt, Nat.reduceSub, Nat.reduceLT,
    Nat.not_lt_zero, h, Nat.add_sub_cancel_left, Vector.getElem?_toList]

theorem fieldByte_pcr (i : Fin 3) (h : k < 32) :
    s.fieldByte (0x90 + 32 * i.val + k) = s.pcr[i].toList[k]? := by
  match i with
  | 0 =>
    show s.fieldByte (0x90 + k) = s.pcr[0].toList[k]?
    simp only [State.fieldByte, ↓reduceIte, ← Nat.lt_sub_iff_add_lt', add_ne_of_lt, Nat.reduceSub, Nat.reduceLT,
      Nat.not_lt_zero, h, Nat.add_sub_cancel_left, Vector.getElem?_toList]
  | 1 =>
    show s.fieldByte (0xB0 + k) = s.pcr[1].toList[k]?
    simp only [State.fieldByte, ↓reduceIte, ← Nat.lt_sub_iff_add_lt', add_ne_of_lt, Nat.reduceSub, Nat.reduceLT,
      Nat.not_lt_zero, h, Nat.add_sub_cancel_left, Vector.getElem?_toList]
  | 2 =>
    show s.fieldByte (0xD0 + k) = s.pcr[2].toList[k]?
    simp only [State.fieldByte, ↓reduceIte, ← Nat.lt_sub_iff_add_lt', add_ne_of_lt, Nat.reduceSub, Nat.reduceLT,
      Nat.not_lt_zero, h, Nat.add_sub_cancel_left, Vector.getElem?_toList]

theorem fieldByte_uid : s.fieldByte (0xF0 + k) = s.uid.toList[k]? := by
  simp only [State.fieldByte, ↓reduceIte, ← Nat.lt_sub_iff_add_lt', add_ne_of_lt, Nat.reduceSub, Nat.reduceLT,
    Nat.not_lt_zero, Nat.add_sub_cancel_left, Vector.getElem?_toList]

end

/-! ### Reading a field -/

section

variable {s : State} (hb : s.busy = false) {c : HostCall} {off len : Nat}

include hb

/-- While no command is busy, a read of exactly the bytes of a field returns them in order. -/
theorem readBytes_eq_of_fieldByte {field : List Byte} (hlen : field.length = len)
    (h : ∀ {k}, k < len → s.fieldByte (off + k) = field[k]?) : s.readBytes off len = field := by
  subst hlen
  refine List.ext_getElem? fun k => ?_
  by_cases hk : k < field.length
  · rw [readBytes_getElem? s off _ k hk, windowByte_of_not_busy hb, h hk, List.getElem?_eq_getElem hk,
      Option.getD_some]
  · rw [List.getElem?_eq_none (by rw [readBytes_length]; omega), List.getElem?_eq_none (by omega)]

/-- An accessor whose plan reads exactly the bytes of a field returns them (R111, R115, R116). -/
theorem accessorReads_bytes {n : Nat} {field : Bytes n} (hplan : hostPlan c = .read off n .bytes) (hpos : 1 ≤ n)
    (hwin : off + n ≤ 0x100) (h : ∀ {k}, k < n → s.fieldByte (off + k) = field.toList[k]?) :
    AccessorReads s c (.bytes field.toList) :=
  ⟨off, n, .bytes, hplan, hpos, hwin, by rw [readBytes_eq_of_fieldByte hb field.length_toList h, readResult]⟩

/-- An accessor whose plan reads exactly the bytes of a 32-bit field returns its value (R112 to R114). -/
theorem accessorReads_word {v : Word} (hplan : hostPlan c = .read off 4 .word) (hwin : off + 4 ≤ 0x100)
    (h : ∀ {k}, k < 4 → s.fieldByte (off + k) = (le32 v)[k]?) : AccessorReads s c (.word v) :=
  ⟨off, 4, .word, hplan, by decide, hwin,
    by rw [readBytes_eq_of_fieldByte hb (le32_length v) h, readResult, fromLe32_le32]⟩

end

/-! ### The obligation -/

/-- Settles O33: the plans are the definition's, and each plan's range of the window is that of its field. -/
theorem accessorsReadTheirFields : Obligations.AccessorsReadTheirFields := by
  refine ⟨fun _ => rfl, fun _ => rfl, rfl, rfl, rfl, rfl, fun s hp => ?_⟩
  have hb : s.busy = false := (busy_eq_false_iff s).2 hp
  refine ⟨fun k => ?_, fun i => ?_, fun i => ?_, ?_, ?_, ?_, ?_⟩
  · exact (windowByte_of_not_busy hb k).trans (fieldByte_buffer s k.isLt)
  · exact accessorReads_bytes hb rfl (by decide) (by omega) (fieldByte_pcr s i)
  · exact accessorReads_word hb rfl (by omega) (fieldByte_ctr s i)
  · exact accessorReads_word hb rfl (by decide) (fieldByte_vbits s)
  · exact accessorReads_word hb rfl (by decide) (fieldByte_vlocks s)
  · exact accessorReads_bytes hb rfl (by decide) (by decide) (fieldByte_user s)
  · exact accessorReads_bytes hb rfl (by decide) (by decide) fun _ => fieldByte_uid s

end Sys2Proof.Machine
end

section
/-!
PROOFS. 44_key_derivation_attestation.md: the length of the quote message, which parts of the state it depends on, and
the messages the two keys are derived from.
-/

namespace Sys2Proof.Machine

open Sys2Proof

/-! ### One selected field (R127) -/

theorem selected_length (mask : Byte) (bit : Nat) (field : List Byte) :
    (selected mask bit field).length = field.length * (mask.getLsbD bit).toNat := by
  unfold selected
  cases mask.getLsbD bit <;> simp

theorem selected_eq_iff (mask : Byte) (bit : Nat) (f g : List Byte) :
    selected mask bit f = selected mask bit g ↔ (mask.getLsbD bit = true → f = g) := by
  unfold selected
  split <;> simp [*]

/-- A field has one length in every state, so what stands before it in a message and the field itself can be read
apart. -/
theorem append_selected_eq_iff (mask : Byte) (bit : Nat) {f g : List Byte} (hlen : f.length = g.length)
    (xs ys : List Byte) : xs ++ selected mask bit f = ys ++ selected mask bit g ↔
      xs = ys ∧ (mask.getLsbD bit = true → f = g) := by
  have hsel : (selected mask bit f).length = (selected mask bit g).length := by
    rw [selected_length, selected_length, hlen]
  rw [List.append_eq_append_iff_of_size_eq_right hsel, selected_eq_iff]

/-! ### The quote message (R126) -/

/-- The two states have the same value in every field the mask selects (R127). -/
def SelectedFieldsAgree (mask : Byte) (s s' : State) : Prop :=
  (mask.getLsbD 7 = true → s.uid = s'.uid) ∧
  (mask.getLsbD 6 = true → s.vbits = s'.vbits ∧ s.vlocks = s'.vlocks) ∧
  (mask.getLsbD 5 = true → s.ctr[0] = s'.ctr[0]) ∧ (mask.getLsbD 4 = true → s.ctr[1] = s'.ctr[1]) ∧
  (mask.getLsbD 3 = true → s.user = s'.user) ∧ (mask.getLsbD 2 = true → s.pcr[2] = s'.pcr[2]) ∧
  (mask.getLsbD 1 = true → s.pcr[1] = s'.pcr[1]) ∧ (mask.getLsbD 0 = true → s.pcr[0] = s'.pcr[0])

theorem le32_inj {v w : Word} : le32 v = le32 w ↔ v = w :=
  ⟨le32_injective, congrArg le32⟩

theorem le32_append_inj {v w v' w' : Word} : le32 v ++ le32 w = le32 v' ++ le32 w' ↔ v = v' ∧ w = w' := by
  rw [List.append_eq_append_iff_of_size_eq_left (by simp), le32_inj, le32_inj]

theorem quoteFields_eq_iff (mask : Byte) (s s' : State) :
    quoteFields mask s = quoteFields mask s' ↔ SelectedFieldsAgree mask s s' := by
  -- A hypothesis: simp does not accept its own proof of a side condition by a lemma that is true by `rfl`.
  have hlen (v : Word) : (le32 v).length = 4 := le32_length v
  simp only [quoteFields, SelectedFieldsAgree, append_selected_eq_iff, selected_eq_iff, List.length_append, hlen,
    Vector.length_toList, le32_inj, le32_append_inj, Vector.toList_inj, and_assoc]

theorem quoteMsg_eq_iff (mask : Byte) (nonce : List Byte) (s s' : State) :
    quoteMsg mask nonce s = quoteMsg mask nonce s' ↔ SelectedFieldsAgree mask s s' := by
  rw [quoteMsg, quoteMsg, List.append_left_inj, List.append_right_inj, quoteFields_eq_iff]

theorem quoteMsg_length (mask : Byte) (nonce : List Byte) (s : State) : (quoteMsg mask nonce s).length =
    8 + 16 * (mask.getLsbD 7).toNat + 8 * (mask.getLsbD 6).toNat
      + 4 * (mask.getLsbD 5).toNat + 4 * (mask.getLsbD 4).toNat
      + 32 * ((mask.getLsbD 3).toNat + (mask.getLsbD 2).toNat + (mask.getLsbD 1).toNat + (mask.getLsbD 0).toNat)
      + nonce.length := by
  have htag : tagQuot.length = 4 := rfl
  simp only [quoteMsg, quoteFields, List.length_append, selected_length, le32_length, Vector.length_toList, htag]
  omega

/-! ### The obligations -/

/-- Settles O18: the length formula, with every mask bit at most 1; 0x00 has no bit set and 0xFF has all eight. -/
theorem quoteMessageLength : Obligations.QuoteMessageLength := by
  intro mask nonce s
  have hlen := quoteMsg_length mask nonce s
  refine ⟨hlen, by omega, fun hn => ?_, quoteMsg_length 0x00 [] s, fun hn => ?_⟩
  · have hbit (i : Nat) : (mask.getLsbD i).toNat ≤ 1 := Bool.toNat_le _
    have := hbit 7; have := hbit 6; have := hbit 5; have := hbit 4
    have := hbit 3; have := hbit 2; have := hbit 1; have := hbit 0
    omega
  · rw [quoteMsg_length, hn]
    decide

/-- Settles O19: the nonce is the last operand of the message's concatenation. -/
theorem nonceEndsTheQuoteMessage : Obligations.NonceEndsTheQuoteMessage := by
  intro mask nonce s
  simp only [quoteMsg, List.append_nil]

/-- Settles O20: states that agree in the selected fields have one message. -/
theorem quoteIgnoresUnselectedFields : Obligations.QuoteIgnoresUnselectedFields := by
  intro h mask nonce s s' hkey h7 h6 h5 h4 h3 h2 h1 h0
  have hmsg := (quoteMsg_eq_iff mask nonce s s').2 ⟨h7, h6, h5, h4, h3, h2, h1, h0⟩
  rw [quoteDigest, quoteDigest, hkey, hmsg]

/-- Settles O21: the message determines every selected field, since each field's length is fixed by the mask. -/
theorem quoteSeesEverySelectedField : Obligations.QuoteSeesEverySelectedField := by
  intro h mask nonce s s'
  refine ⟨(quoteMsg_eq_iff mask nonce s s').1, fun hkey hfree hne => ?_⟩
  rw [quoteDigest, quoteDigest, ← hkey]
  exact hfree hne

/-- Settles O22: the two messages end in different tags. -/
theorem purposeKeysAreSeparated : Obligations.PurposeKeysAreSeparated := by
  intro h root seed
  have htag : tagQuot ≠ tagHkdf := by decide
  have hne : seed ++ tagQuot ≠ seed ++ tagHkdf := fun heq => htag (List.append_cancel_left heq)
  exact ⟨hne, fun hfree => hfree hne⟩

end Sys2Proof.Machine
end

section
/-!
PROOFS. 60_exceptions.md: what a call with bad arguments does (R135, R137): the wrapper's check, then the two of
`execute`, each of which ends the call where it is taken up.
-/

namespace Sys2Proof.Machine

open Sys2Proof

/-! ### The checks of a call -/

/-- The wrapper's check comes first (R137 item 1). -/
theorem startCall_of_argumentError {s : State} {c : HostCall} {check : FailedCheck}
    (h : argumentError c = some check) :
    startCall s c = .next (s.finish (.error (.invalidArgument check))) := by
  rw [startCall, h]

/-- The checks of `execute` come next, still before any transfer (R137 items 2 and 3). -/
theorem startCall_of_frameError {s : State} {c : HostCall} {x : Execute} {e : HostError}
    (harg : argumentError c = none) (hplan : hostPlan c = .frame x) (h : frameError x = some e) :
    startCall s c = .next (s.finish (.error e)) := by
  simp only [startCall, harg, hplan, startPlan, startFrame, h]

theorem frameError_of_longPayload {x : Execute} (hp : 80 < x.payload.length) :
    frameError x = some (.invalidArgument .payloadLength) :=
  if_pos hp

theorem frameError_of_longResponse {x : Execute} (hp : x.payload.length ≤ 80) (hr : 80 < x.responseLength) :
    frameError x = some (.protocolViolation .responseLength) := by
  rw [frameError, if_neg (Nat.not_lt.2 hp), if_pos hr]

/-- `execute` and `execute_checked` have no wrapper's check and make the checks of `execute` on one frame (R88, R90). -/
theorem execute_frame {c : HostCall} {op a0 a1 a2 : Byte} {p : List Byte} {r : Nat}
    (hc : c = .execute op a0 a1 a2 p r ∨ c = .executeChecked op a0 a1 a2 p r) :
    argumentError c = none ∧ ∃ framing, hostPlan c = .frame ⟨op, a0, a1, a2, p, r, framing⟩ := by
  obtain rfl | rfl := hc
  · exact ⟨rfl, .raw, rfl⟩
  · exact ⟨rfl, .checked, rfl⟩

/-! ### The obligation -/

/-- Settles O38: the check that fails first ends the call where it is taken up; the order of each wrapper's checks is
`argumentError` itself. -/
theorem badArgumentsEndBeforeAnyTransfer : Obligations.BadArgumentsEndBeforeAnyTransfer := by
  refine ⟨fun _ _ _ => startCall_of_argumentError, fun _ _ => rfl, fun _ _ => rfl, fun _ _ => rfl, fun _ => rfl,
    fun _ => rfl, fun _ => rfl, fun s op a0 a1 a2 p r => ⟨fun hp c hc => ?_, fun hp hr c hc => ?_⟩⟩
  · obtain ⟨harg, framing, hplan⟩ := execute_frame hc
    exact startCall_of_frameError harg hplan (frameError_of_longPayload hp)
  · obtain ⟨harg, framing, hplan⟩ := execute_frame hc
    exact startCall_of_frameError harg hplan (frameError_of_longResponse hp hr)

end Sys2Proof.Machine
end

section
/-!
PROOFS. 70_reset_and_hazards.md: what happens before a trigger arrives (R150): the device takes no step, and a host with
nothing to do leaves everything as it is.
-/

namespace Sys2Proof.Machine

open Sys2Proof

/-- A host with nothing under way and nothing queued changes nothing. -/
theorem hostStep_of_quiet {s : State} (ht : s.task = .idle) (hc : s.calls = []) : hostStep s = .next s := by
  simp only [hostStep, ht, hostIdle, hc]

/-! ### The obligation -/

/-- Settles O25: in Idle and in Completed the device is not busy, so the step is the host's, and the host is quiet. -/
theorem quietMachineStaysAsItIs : Obligations.QuietMachineStaysAsItIs := by
  intro s hf hp ht hc
  have hb : s.busy = false := (busy_eq_false_iff s).2 hp
  calc step s = hostStep s := step_of_not_busy hf hb
    _ = .next s := hostStep_of_quiet ht hc

end Sys2Proof.Machine
end

section
/-!
PROOFS. 30_encoding.md R66, R67: what undefined encodings do: operands out of range have no meaning but the fault, and
an opcode that is none of the five decodes to nothing; 95_test_vectors.md section 3.3: words of the five commands.
-/

namespace Sys2Proof.Machine

open Sys2Proof

/-! ### The obligations -/

/-- Settles O13: an arm that completes has its operands in range, and every other one answers the fault. -/
theorem outOfRangeOperandsFault : Obligations.OutOfRangeOperandsFault := by
  intro i s hw
  cases i with
  | nop a b c => cases hw
  | extend index length arg2 =>
    simp only [Instr.wellFormed, Bool.and_eq_false_iff, decide_eq_false_iff_not] at hw
    obtain ⟨hi, hn, -⟩ | ⟨-, hfault⟩ := execExtend_cases index length s
    · omega
    · exact hfault
  | quote mask length arg2 =>
    obtain ⟨hn, -⟩ | ⟨-, hfault⟩ := execQuote_cases mask length s
    · exact absurd hn (of_decide_eq_false hw)
    · exact hfault
  | increment index addend arg2 =>
    simp only [Instr.wellFormed, Bool.and_eq_false_iff, decide_eq_false_iff_not] at hw
    obtain ⟨hi, ha, -⟩ | ⟨-, hfault⟩ := execIncrement_cases index addend s
    · omega
    · exact hfault
  | hkdf length arg1 arg2 =>
    obtain ⟨hn, -⟩ | ⟨-, hfault⟩ := execHkdf_cases length s
    · exact absurd hn (of_decide_eq_false hw)
    · exact hfault

/-- Settles O5: each of the five words is the word of its command's encoding, which decodes back to the command; the
opcodes 0x01 and 0xFF are undefined. -/
theorem specWordsDecode : Obligations.SpecWordsDecode :=
  have hdecode := decodingAnEncodedWordGivesTheCommand
  ⟨hdecode (.nop 0xAA 0xBB 0xCC), hdecode (.extend 2 80 0), hdecode (.quote 0x81 4 0), hdecode (.increment 1 255 0),
    hdecode (.hkdf 3 0 0), by decide, by decide⟩

end Sys2Proof.Machine
end
